-- ==== Sys2Proof/Word.lean ====
section
/-! DEFINITION. The byte and the word: the two widths of the core (spec/00_scope.md R7, R9). -/

namespace Sys2Proof

/-- `u8`: an unsigned 8-bit value, arithmetic modulo 256 (00_scope.md R9, R10). -/
abbrev Byte := BitVec 8

/-- `u16`: an unsigned 16-bit value, arithmetic modulo 65536; registers SP and PC, pairs and addresses
(00_scope.md R7, R9, R10). -/
abbrev Word := BitVec 16

end Sys2Proof
end

