-- ==== Sys2Proof/WellFormed.lean ====
section
/-! DEFINITION. Which terms of `Instr` are instructions of spec/opcode_table.json. -/

namespace Sys2Proof

/-- The eleven primary bytes of the table ILLEGAL (30_encoding.md R112). -/
def illegalOpcodes : List Byte :=
  [0xD3, 0xDB, 0xDD, 0xE3, 0xE4, 0xEB, 0xEC, 0xED, 0xF4, 0xFC, 0xFD]

/-- `illegal op` is well formed when `op` is one of the ILLEGAL bytes (30_encoding.md R112). Every other
constructor is, whatever its immediate: the immediates' types are exactly R108's ranges. -/
def Instr.wf (i : Instr) : Bool :=
  match i with
  | .illegal op => illegalOpcodes.contains op
  | _ => true

end Sys2Proof
end

