-- ==== Sys2Proof/Decode.lean ====
section
/-! DEFINITION. Encoding and decoding (spec/30_encoding.md): the operand fields and their codes, the grids of R116 and
R117, the decoder, the encoder, and the instruction a word of the opcode table decodes to. -/

namespace Sys2Proof

/-! ### Bytes and words -/

/-- `hi:lo` (00_scope.md R9). -/
def wordOfBytes (hi lo : Byte) : Word := hi ++ lo

/-- `v[15:8]`. -/
def highByte (v : Word) : Byte := v.extractLsb' 8 8

/-- `v[7:0]`. -/
def lowByte (v : Word) : Byte := v.extractLsb' 0 8

/-! ### The fields of an opcode byte (R102 to R107) -/

/-- The 8-bit registers the field r names (R103). -/
inductive Reg8 where
  | B | C | D | E | H | L | A
deriving DecidableEq, Repr

/-- The code of a register in the field r; code 6 is (HL) (R103). -/
def Reg8.code (x : Reg8) : Byte :=
  match x with
  | .B => 0
  | .C => 1
  | .D => 2
  | .E => 3
  | .H => 4
  | .L => 5
  | .A => 7

/-- What the field r selects: a register, or the byte in memory at HL (R103). -/
inductive Target where
  | reg (r : Reg8)
  | mHL
deriving DecidableEq, Repr

/-- The code in the field r (R103). -/
def Target.code (t : Target) : Byte :=
  match t with
  | .reg r => r.code
  | .mHL => 6

/-- The registers of 16 bits that rules name: the pairs and SP (00_scope.md R9). -/
inductive Reg16 where
  | AF | BC | DE | HL | SP
deriving DecidableEq, Repr

/-- The field rp (R104). -/
inductive Rp where
  | BC | DE | HL | SP
deriving DecidableEq, Repr

/-- The code in the field rp (R104). -/
def Rp.code (x : Rp) : Byte :=
  match x with
  | .BC => 0
  | .DE => 1
  | .HL => 2
  | .SP => 3

/-- The pair or SP the field rp selects. -/
def Rp.pair (p : Rp) : Reg16 :=
  match p with
  | .BC => .BC
  | .DE => .DE
  | .HL => .HL
  | .SP => .SP

/-- The field rp2 of PUSH and POP (R104). -/
inductive Rp2 where
  | BC | DE | HL | AF
deriving DecidableEq, Repr

/-- The code in the field rp2 (R104). -/
def Rp2.code (x : Rp2) : Byte :=
  match x with
  | .BC => 0
  | .DE => 1
  | .HL => 2
  | .AF => 3

/-- The pair the field rp2 selects. -/
def Rp2.pair (q : Rp2) : Reg16 :=
  match q with
  | .BC => .BC
  | .DE => .DE
  | .HL => .HL
  | .AF => .AF

/-- The condition field cc (R105). -/
inductive Cond where
  | NZ | Z | NC | C
deriving DecidableEq, Repr

/-- The code in the field cc (R105). -/
def Cond.code (x : Cond) : Byte :=
  match x with
  | .NZ => 0
  | .Z => 1
  | .NC => 2
  | .C => 3

/-- The field alu (R106). -/
inductive AluOp where
  | ADD | ADC | SUB | SBC | AND | XOR | OR | CP
deriving DecidableEq, Repr

/-- The code in the field alu (R106). -/
def AluOp.code (x : AluOp) : Byte :=
  match x with
  | .ADD => 0
  | .ADC => 1
  | .SUB => 2
  | .SBC => 3
  | .AND => 4
  | .XOR => 5
  | .OR => 6
  | .CP => 7

/-- The field rot (R107). -/
inductive RotOp where
  | RLC | RRC | RL | RR | SLA | SRA | SWAP | SRL
deriving DecidableEq, Repr

/-- The code in the field rot (R107). -/
def RotOp.code (x : RotOp) : Byte :=
  match x with
  | .RLC => 0
  | .RRC => 1
  | .RL => 2
  | .RR => 3
  | .SLA => 4
  | .SRA => 5
  | .SWAP => 6
  | .SRL => 7

/-- The field y of BIT, RES, SET and RST: a number from 0 to 7 (R102). -/
inductive Bit3 where
  | b0 | b1 | b2 | b3 | b4 | b5 | b6 | b7
deriving DecidableEq, Repr

/-- The number in the field y (R102). -/
def Bit3.code (x : Bit3) : Byte :=
  match x with
  | .b0 => 0
  | .b1 => 1
  | .b2 => 2
  | .b3 => 3
  | .b4 => 4
  | .b5 => 5
  | .b6 => 6
  | .b7 => 7

/-! ### The families of the grids: the instruction at given fields (R116, R117, "in field terms") -/

/-- `LD r,r'` (40_load8.md R140). -/
def Instr.ldRegReg (dst src : Reg8) : Instr :=
  match dst, src with
  | .B, .B => .ld_B_B
  | .B, .C => .ld_B_C
  | .B, .D => .ld_B_D
  | .B, .E => .ld_B_E
  | .B, .H => .ld_B_H
  | .B, .L => .ld_B_L
  | .B, .A => .ld_B_A
  | .C, .B => .ld_C_B
  | .C, .C => .ld_C_C
  | .C, .D => .ld_C_D
  | .C, .E => .ld_C_E
  | .C, .H => .ld_C_H
  | .C, .L => .ld_C_L
  | .C, .A => .ld_C_A
  | .D, .B => .ld_D_B
  | .D, .C => .ld_D_C
  | .D, .D => .ld_D_D
  | .D, .E => .ld_D_E
  | .D, .H => .ld_D_H
  | .D, .L => .ld_D_L
  | .D, .A => .ld_D_A
  | .E, .B => .ld_E_B
  | .E, .C => .ld_E_C
  | .E, .D => .ld_E_D
  | .E, .E => .ld_E_E
  | .E, .H => .ld_E_H
  | .E, .L => .ld_E_L
  | .E, .A => .ld_E_A
  | .H, .B => .ld_H_B
  | .H, .C => .ld_H_C
  | .H, .D => .ld_H_D
  | .H, .E => .ld_H_E
  | .H, .H => .ld_H_H
  | .H, .L => .ld_H_L
  | .H, .A => .ld_H_A
  | .L, .B => .ld_L_B
  | .L, .C => .ld_L_C
  | .L, .D => .ld_L_D
  | .L, .E => .ld_L_E
  | .L, .H => .ld_L_H
  | .L, .L => .ld_L_L
  | .L, .A => .ld_L_A
  | .A, .B => .ld_A_B
  | .A, .C => .ld_A_C
  | .A, .D => .ld_A_D
  | .A, .E => .ld_A_E
  | .A, .H => .ld_A_H
  | .A, .L => .ld_A_L
  | .A, .A => .ld_A_A

/-- `LD r,(HL)` (40_load8.md R141). -/
def Instr.ldRegMem (dst : Reg8) : Instr :=
  match dst with
  | .B => .ld_B_mHL
  | .C => .ld_C_mHL
  | .D => .ld_D_mHL
  | .E => .ld_E_mHL
  | .H => .ld_H_mHL
  | .L => .ld_L_mHL
  | .A => .ld_A_mHL

/-- `LD (HL),r` (40_load8.md R142). -/
def Instr.ldMemReg (src : Reg8) : Instr :=
  match src with
  | .B => .ld_mHL_B
  | .C => .ld_mHL_C
  | .D => .ld_mHL_D
  | .E => .ld_mHL_E
  | .H => .ld_mHL_H
  | .L => .ld_mHL_L
  | .A => .ld_mHL_A

/-- `LD r,d8` (40_load8.md R143). -/
def Instr.ldRegImm (dst : Reg8) (n : Byte) : Instr :=
  match dst with
  | .B => .ld_B_d8 n
  | .C => .ld_C_d8 n
  | .D => .ld_D_d8 n
  | .E => .ld_E_d8 n
  | .H => .ld_H_d8 n
  | .L => .ld_L_d8 n
  | .A => .ld_A_d8 n

/-- The accumulator operations on a register or (HL) (42_alu8.md R190). -/
def Instr.alu (o : AluOp) (t : Target) : Instr :=
  match o, t with
  | .ADD, .reg .B => .add_A_B
  | .ADD, .reg .C => .add_A_C
  | .ADD, .reg .D => .add_A_D
  | .ADD, .reg .E => .add_A_E
  | .ADD, .reg .H => .add_A_H
  | .ADD, .reg .L => .add_A_L
  | .ADD, .mHL => .add_A_mHL
  | .ADD, .reg .A => .add_A_A
  | .ADC, .reg .B => .adc_A_B
  | .ADC, .reg .C => .adc_A_C
  | .ADC, .reg .D => .adc_A_D
  | .ADC, .reg .E => .adc_A_E
  | .ADC, .reg .H => .adc_A_H
  | .ADC, .reg .L => .adc_A_L
  | .ADC, .mHL => .adc_A_mHL
  | .ADC, .reg .A => .adc_A_A
  | .SUB, .reg .B => .sub_B
  | .SUB, .reg .C => .sub_C
  | .SUB, .reg .D => .sub_D
  | .SUB, .reg .E => .sub_E
  | .SUB, .reg .H => .sub_H
  | .SUB, .reg .L => .sub_L
  | .SUB, .mHL => .sub_mHL
  | .SUB, .reg .A => .sub_A
  | .SBC, .reg .B => .sbc_A_B
  | .SBC, .reg .C => .sbc_A_C
  | .SBC, .reg .D => .sbc_A_D
  | .SBC, .reg .E => .sbc_A_E
  | .SBC, .reg .H => .sbc_A_H
  | .SBC, .reg .L => .sbc_A_L
  | .SBC, .mHL => .sbc_A_mHL
  | .SBC, .reg .A => .sbc_A_A
  | .AND, .reg .B => .and_B
  | .AND, .reg .C => .and_C
  | .AND, .reg .D => .and_D
  | .AND, .reg .E => .and_E
  | .AND, .reg .H => .and_H
  | .AND, .reg .L => .and_L
  | .AND, .mHL => .and_mHL
  | .AND, .reg .A => .and_A
  | .XOR, .reg .B => .xor_B
  | .XOR, .reg .C => .xor_C
  | .XOR, .reg .D => .xor_D
  | .XOR, .reg .E => .xor_E
  | .XOR, .reg .H => .xor_H
  | .XOR, .reg .L => .xor_L
  | .XOR, .mHL => .xor_mHL
  | .XOR, .reg .A => .xor_A
  | .OR, .reg .B => .or_B
  | .OR, .reg .C => .or_C
  | .OR, .reg .D => .or_D
  | .OR, .reg .E => .or_E
  | .OR, .reg .H => .or_H
  | .OR, .reg .L => .or_L
  | .OR, .mHL => .or_mHL
  | .OR, .reg .A => .or_A
  | .CP, .reg .B => .cp_B
  | .CP, .reg .C => .cp_C
  | .CP, .reg .D => .cp_D
  | .CP, .reg .E => .cp_E
  | .CP, .reg .H => .cp_H
  | .CP, .reg .L => .cp_L
  | .CP, .mHL => .cp_mHL
  | .CP, .reg .A => .cp_A

/-- The accumulator operations on d8 (42_alu8.md R190). -/
def Instr.aluImm (o : AluOp) (n : Byte) : Instr :=
  match o with
  | .ADD => .add_A_d8 n
  | .ADC => .adc_A_d8 n
  | .SUB => .sub_d8 n
  | .SBC => .sbc_A_d8 n
  | .AND => .and_d8 n
  | .XOR => .xor_d8 n
  | .OR => .or_d8 n
  | .CP => .cp_d8 n

/-- `INC r` and `INC (HL)` (42_alu8.md R200, R201). -/
def Instr.inc (t : Target) : Instr :=
  match t with
  | .reg .B => .inc_B
  | .reg .C => .inc_C
  | .reg .D => .inc_D
  | .reg .E => .inc_E
  | .reg .H => .inc_H
  | .reg .L => .inc_L
  | .mHL => .inc_mHL
  | .reg .A => .inc_A

/-- `DEC r` and `DEC (HL)` (42_alu8.md R202, R203). -/
def Instr.dec (t : Target) : Instr :=
  match t with
  | .reg .B => .dec_B
  | .reg .C => .dec_C
  | .reg .D => .dec_D
  | .reg .E => .dec_E
  | .reg .H => .dec_H
  | .reg .L => .dec_L
  | .mHL => .dec_mHL
  | .reg .A => .dec_A

/-- `LD rr,d16` (41_load16_stack.md R170). -/
def Instr.ldPairImm (p : Rp) (n : Word) : Instr :=
  match p with
  | .BC => .ld_BC_d16 n
  | .DE => .ld_DE_d16 n
  | .HL => .ld_HL_d16 n
  | .SP => .ld_SP_d16 n

/-- `PUSH rr` (41_load16_stack.md R174). -/
def Instr.push (q : Rp2) : Instr :=
  match q with
  | .BC => .push_BC
  | .DE => .push_DE
  | .HL => .push_HL
  | .AF => .push_AF

/-- `POP rr` and `POP AF` (41_load16_stack.md R175, R176). -/
def Instr.pop (q : Rp2) : Instr :=
  match q with
  | .BC => .pop_BC
  | .DE => .pop_DE
  | .HL => .pop_HL
  | .AF => .pop_AF

/-- `ADD HL,rr` (43_alu16.md R230). -/
def Instr.addHL (p : Rp) : Instr :=
  match p with
  | .BC => .add_HL_BC
  | .DE => .add_HL_DE
  | .HL => .add_HL_HL
  | .SP => .add_HL_SP

/-- `INC rr` (43_alu16.md R231). -/
def Instr.incPair (p : Rp) : Instr :=
  match p with
  | .BC => .inc_BC
  | .DE => .inc_DE
  | .HL => .inc_HL
  | .SP => .inc_SP

/-- `DEC rr` (43_alu16.md R232). -/
def Instr.decPair (p : Rp) : Instr :=
  match p with
  | .BC => .dec_BC
  | .DE => .dec_DE
  | .HL => .dec_HL
  | .SP => .dec_SP

/-- `JP cc,a16` (44_control.md R252). -/
def Instr.jpCond (cc : Cond) (a16 : Word) : Instr :=
  match cc with
  | .NZ => .jp_NZ_a16 a16
  | .Z => .jp_Z_a16 a16
  | .NC => .jp_NC_a16 a16
  | .C => .jp_C_a16 a16

/-- `JR cc,e8` (44_control.md R255). -/
def Instr.jrCond (cc : Cond) (e8 : Byte) : Instr :=
  match cc with
  | .NZ => .jr_NZ_e8 e8
  | .Z => .jr_Z_e8 e8
  | .NC => .jr_NC_e8 e8
  | .C => .jr_C_e8 e8

/-- `CALL cc,a16` (44_control.md R257). -/
def Instr.callCond (cc : Cond) (a16 : Word) : Instr :=
  match cc with
  | .NZ => .call_NZ_a16 a16
  | .Z => .call_Z_a16 a16
  | .NC => .call_NC_a16 a16
  | .C => .call_C_a16 a16

/-- `RET cc` (44_control.md R259). -/
def Instr.retCond (cc : Cond) : Instr :=
  match cc with
  | .NZ => .ret_NZ
  | .Z => .ret_Z
  | .NC => .ret_NC
  | .C => .ret_C

/-- `RST n`, n being 8 times the field (44_control.md R261). -/
def Instr.rst (y : Bit3) : Instr :=
  match y with
  | .b0 => .rst_00
  | .b1 => .rst_08
  | .b2 => .rst_10
  | .b3 => .rst_18
  | .b4 => .rst_20
  | .b5 => .rst_28
  | .b6 => .rst_30
  | .b7 => .rst_38

/-- The extended rotates, shifts and SWAP (45_rotate_shift_bit.md R276 to R283). -/
def Instr.rot (k : RotOp) (t : Target) : Instr :=
  match k, t with
  | .RLC, .reg .B => .rlc_B
  | .RLC, .reg .C => .rlc_C
  | .RLC, .reg .D => .rlc_D
  | .RLC, .reg .E => .rlc_E
  | .RLC, .reg .H => .rlc_H
  | .RLC, .reg .L => .rlc_L
  | .RLC, .mHL => .rlc_mHL
  | .RLC, .reg .A => .rlc_A
  | .RRC, .reg .B => .rrc_B
  | .RRC, .reg .C => .rrc_C
  | .RRC, .reg .D => .rrc_D
  | .RRC, .reg .E => .rrc_E
  | .RRC, .reg .H => .rrc_H
  | .RRC, .reg .L => .rrc_L
  | .RRC, .mHL => .rrc_mHL
  | .RRC, .reg .A => .rrc_A
  | .RL, .reg .B => .rl_B
  | .RL, .reg .C => .rl_C
  | .RL, .reg .D => .rl_D
  | .RL, .reg .E => .rl_E
  | .RL, .reg .H => .rl_H
  | .RL, .reg .L => .rl_L
  | .RL, .mHL => .rl_mHL
  | .RL, .reg .A => .rl_A
  | .RR, .reg .B => .rr_B
  | .RR, .reg .C => .rr_C
  | .RR, .reg .D => .rr_D
  | .RR, .reg .E => .rr_E
  | .RR, .reg .H => .rr_H
  | .RR, .reg .L => .rr_L
  | .RR, .mHL => .rr_mHL
  | .RR, .reg .A => .rr_A
  | .SLA, .reg .B => .sla_B
  | .SLA, .reg .C => .sla_C
  | .SLA, .reg .D => .sla_D
  | .SLA, .reg .E => .sla_E
  | .SLA, .reg .H => .sla_H
  | .SLA, .reg .L => .sla_L
  | .SLA, .mHL => .sla_mHL
  | .SLA, .reg .A => .sla_A
  | .SRA, .reg .B => .sra_B
  | .SRA, .reg .C => .sra_C
  | .SRA, .reg .D => .sra_D
  | .SRA, .reg .E => .sra_E
  | .SRA, .reg .H => .sra_H
  | .SRA, .reg .L => .sra_L
  | .SRA, .mHL => .sra_mHL
  | .SRA, .reg .A => .sra_A
  | .SWAP, .reg .B => .swap_B
  | .SWAP, .reg .C => .swap_C
  | .SWAP, .reg .D => .swap_D
  | .SWAP, .reg .E => .swap_E
  | .SWAP, .reg .H => .swap_H
  | .SWAP, .reg .L => .swap_L
  | .SWAP, .mHL => .swap_mHL
  | .SWAP, .reg .A => .swap_A
  | .SRL, .reg .B => .srl_B
  | .SRL, .reg .C => .srl_C
  | .SRL, .reg .D => .srl_D
  | .SRL, .reg .E => .srl_E
  | .SRL, .reg .H => .srl_H
  | .SRL, .reg .L => .srl_L
  | .SRL, .mHL => .srl_mHL
  | .SRL, .reg .A => .srl_A

/-- `BIT b,t` (45_rotate_shift_bit.md R284). -/
def Instr.bit (y : Bit3) (t : Target) : Instr :=
  match y, t with
  | .b0, .reg .B => .bit_0_B
  | .b0, .reg .C => .bit_0_C
  | .b0, .reg .D => .bit_0_D
  | .b0, .reg .E => .bit_0_E
  | .b0, .reg .H => .bit_0_H
  | .b0, .reg .L => .bit_0_L
  | .b0, .mHL => .bit_0_mHL
  | .b0, .reg .A => .bit_0_A
  | .b1, .reg .B => .bit_1_B
  | .b1, .reg .C => .bit_1_C
  | .b1, .reg .D => .bit_1_D
  | .b1, .reg .E => .bit_1_E
  | .b1, .reg .H => .bit_1_H
  | .b1, .reg .L => .bit_1_L
  | .b1, .mHL => .bit_1_mHL
  | .b1, .reg .A => .bit_1_A
  | .b2, .reg .B => .bit_2_B
  | .b2, .reg .C => .bit_2_C
  | .b2, .reg .D => .bit_2_D
  | .b2, .reg .E => .bit_2_E
  | .b2, .reg .H => .bit_2_H
  | .b2, .reg .L => .bit_2_L
  | .b2, .mHL => .bit_2_mHL
  | .b2, .reg .A => .bit_2_A
  | .b3, .reg .B => .bit_3_B
  | .b3, .reg .C => .bit_3_C
  | .b3, .reg .D => .bit_3_D
  | .b3, .reg .E => .bit_3_E
  | .b3, .reg .H => .bit_3_H
  | .b3, .reg .L => .bit_3_L
  | .b3, .mHL => .bit_3_mHL
  | .b3, .reg .A => .bit_3_A
  | .b4, .reg .B => .bit_4_B
  | .b4, .reg .C => .bit_4_C
  | .b4, .reg .D => .bit_4_D
  | .b4, .reg .E => .bit_4_E
  | .b4, .reg .H => .bit_4_H
  | .b4, .reg .L => .bit_4_L
  | .b4, .mHL => .bit_4_mHL
  | .b4, .reg .A => .bit_4_A
  | .b5, .reg .B => .bit_5_B
  | .b5, .reg .C => .bit_5_C
  | .b5, .reg .D => .bit_5_D
  | .b5, .reg .E => .bit_5_E
  | .b5, .reg .H => .bit_5_H
  | .b5, .reg .L => .bit_5_L
  | .b5, .mHL => .bit_5_mHL
  | .b5, .reg .A => .bit_5_A
  | .b6, .reg .B => .bit_6_B
  | .b6, .reg .C => .bit_6_C
  | .b6, .reg .D => .bit_6_D
  | .b6, .reg .E => .bit_6_E
  | .b6, .reg .H => .bit_6_H
  | .b6, .reg .L => .bit_6_L
  | .b6, .mHL => .bit_6_mHL
  | .b6, .reg .A => .bit_6_A
  | .b7, .reg .B => .bit_7_B
  | .b7, .reg .C => .bit_7_C
  | .b7, .reg .D => .bit_7_D
  | .b7, .reg .E => .bit_7_E
  | .b7, .reg .H => .bit_7_H
  | .b7, .reg .L => .bit_7_L
  | .b7, .mHL => .bit_7_mHL
  | .b7, .reg .A => .bit_7_A

/-- `RES b,t` (45_rotate_shift_bit.md R285). -/
def Instr.res (y : Bit3) (t : Target) : Instr :=
  match y, t with
  | .b0, .reg .B => .res_0_B
  | .b0, .reg .C => .res_0_C
  | .b0, .reg .D => .res_0_D
  | .b0, .reg .E => .res_0_E
  | .b0, .reg .H => .res_0_H
  | .b0, .reg .L => .res_0_L
  | .b0, .mHL => .res_0_mHL
  | .b0, .reg .A => .res_0_A
  | .b1, .reg .B => .res_1_B
  | .b1, .reg .C => .res_1_C
  | .b1, .reg .D => .res_1_D
  | .b1, .reg .E => .res_1_E
  | .b1, .reg .H => .res_1_H
  | .b1, .reg .L => .res_1_L
  | .b1, .mHL => .res_1_mHL
  | .b1, .reg .A => .res_1_A
  | .b2, .reg .B => .res_2_B
  | .b2, .reg .C => .res_2_C
  | .b2, .reg .D => .res_2_D
  | .b2, .reg .E => .res_2_E
  | .b2, .reg .H => .res_2_H
  | .b2, .reg .L => .res_2_L
  | .b2, .mHL => .res_2_mHL
  | .b2, .reg .A => .res_2_A
  | .b3, .reg .B => .res_3_B
  | .b3, .reg .C => .res_3_C
  | .b3, .reg .D => .res_3_D
  | .b3, .reg .E => .res_3_E
  | .b3, .reg .H => .res_3_H
  | .b3, .reg .L => .res_3_L
  | .b3, .mHL => .res_3_mHL
  | .b3, .reg .A => .res_3_A
  | .b4, .reg .B => .res_4_B
  | .b4, .reg .C => .res_4_C
  | .b4, .reg .D => .res_4_D
  | .b4, .reg .E => .res_4_E
  | .b4, .reg .H => .res_4_H
  | .b4, .reg .L => .res_4_L
  | .b4, .mHL => .res_4_mHL
  | .b4, .reg .A => .res_4_A
  | .b5, .reg .B => .res_5_B
  | .b5, .reg .C => .res_5_C
  | .b5, .reg .D => .res_5_D
  | .b5, .reg .E => .res_5_E
  | .b5, .reg .H => .res_5_H
  | .b5, .reg .L => .res_5_L
  | .b5, .mHL => .res_5_mHL
  | .b5, .reg .A => .res_5_A
  | .b6, .reg .B => .res_6_B
  | .b6, .reg .C => .res_6_C
  | .b6, .reg .D => .res_6_D
  | .b6, .reg .E => .res_6_E
  | .b6, .reg .H => .res_6_H
  | .b6, .reg .L => .res_6_L
  | .b6, .mHL => .res_6_mHL
  | .b6, .reg .A => .res_6_A
  | .b7, .reg .B => .res_7_B
  | .b7, .reg .C => .res_7_C
  | .b7, .reg .D => .res_7_D
  | .b7, .reg .E => .res_7_E
  | .b7, .reg .H => .res_7_H
  | .b7, .reg .L => .res_7_L
  | .b7, .mHL => .res_7_mHL
  | .b7, .reg .A => .res_7_A

/-- `SET b,t` (45_rotate_shift_bit.md R286). -/
def Instr.set (y : Bit3) (t : Target) : Instr :=
  match y, t with
  | .b0, .reg .B => .set_0_B
  | .b0, .reg .C => .set_0_C
  | .b0, .reg .D => .set_0_D
  | .b0, .reg .E => .set_0_E
  | .b0, .reg .H => .set_0_H
  | .b0, .reg .L => .set_0_L
  | .b0, .mHL => .set_0_mHL
  | .b0, .reg .A => .set_0_A
  | .b1, .reg .B => .set_1_B
  | .b1, .reg .C => .set_1_C
  | .b1, .reg .D => .set_1_D
  | .b1, .reg .E => .set_1_E
  | .b1, .reg .H => .set_1_H
  | .b1, .reg .L => .set_1_L
  | .b1, .mHL => .set_1_mHL
  | .b1, .reg .A => .set_1_A
  | .b2, .reg .B => .set_2_B
  | .b2, .reg .C => .set_2_C
  | .b2, .reg .D => .set_2_D
  | .b2, .reg .E => .set_2_E
  | .b2, .reg .H => .set_2_H
  | .b2, .reg .L => .set_2_L
  | .b2, .mHL => .set_2_mHL
  | .b2, .reg .A => .set_2_A
  | .b3, .reg .B => .set_3_B
  | .b3, .reg .C => .set_3_C
  | .b3, .reg .D => .set_3_D
  | .b3, .reg .E => .set_3_E
  | .b3, .reg .H => .set_3_H
  | .b3, .reg .L => .set_3_L
  | .b3, .mHL => .set_3_mHL
  | .b3, .reg .A => .set_3_A
  | .b4, .reg .B => .set_4_B
  | .b4, .reg .C => .set_4_C
  | .b4, .reg .D => .set_4_D
  | .b4, .reg .E => .set_4_E
  | .b4, .reg .H => .set_4_H
  | .b4, .reg .L => .set_4_L
  | .b4, .mHL => .set_4_mHL
  | .b4, .reg .A => .set_4_A
  | .b5, .reg .B => .set_5_B
  | .b5, .reg .C => .set_5_C
  | .b5, .reg .D => .set_5_D
  | .b5, .reg .E => .set_5_E
  | .b5, .reg .H => .set_5_H
  | .b5, .reg .L => .set_5_L
  | .b5, .mHL => .set_5_mHL
  | .b5, .reg .A => .set_5_A
  | .b6, .reg .B => .set_6_B
  | .b6, .reg .C => .set_6_C
  | .b6, .reg .D => .set_6_D
  | .b6, .reg .E => .set_6_E
  | .b6, .reg .H => .set_6_H
  | .b6, .reg .L => .set_6_L
  | .b6, .mHL => .set_6_mHL
  | .b6, .reg .A => .set_6_A
  | .b7, .reg .B => .set_7_B
  | .b7, .reg .C => .set_7_C
  | .b7, .reg .D => .set_7_D
  | .b7, .reg .E => .set_7_E
  | .b7, .reg .H => .set_7_H
  | .b7, .reg .L => .set_7_L
  | .b7, .mHL => .set_7_mHL
  | .b7, .reg .A => .set_7_A

/-! ### The opcode map (R116, R117) -/

/-- An entry of the primary table: an instruction without an immediate, with one immediate byte, with two; the
0xCB byte; or no instruction (R116, R101). -/
inductive Entry where
  | op (i : Instr)
  | imm8 (f : Byte → Instr)
  | imm16 (f : Word → Instr)
  | cbTable
  | illegal

/-- Row 0x of the primary grid (R116). -/
def primaryRow0 : List Entry :=
  [.op .nop, .imm16 .ld_BC_d16, .op .ld_mBC_A, .op .inc_BC,
   .op .inc_B, .op .dec_B, .imm8 .ld_B_d8, .op .rlca,
   .imm16 .ld_ma16_SP, .op .add_HL_BC, .op .ld_A_mBC, .op .dec_BC,
   .op .inc_C, .op .dec_C, .imm8 .ld_C_d8, .op .rrca]

/-- Row 1x of the primary grid (R116). -/
def primaryRow1 : List Entry :=
  [.imm8 .stop, .imm16 .ld_DE_d16, .op .ld_mDE_A, .op .inc_DE,
   .op .inc_D, .op .dec_D, .imm8 .ld_D_d8, .op .rla,
   .imm8 .jr_e8, .op .add_HL_DE, .op .ld_A_mDE, .op .dec_DE,
   .op .inc_E, .op .dec_E, .imm8 .ld_E_d8, .op .rra]

/-- Row 2x of the primary grid (R116). -/
def primaryRow2 : List Entry :=
  [.imm8 .jr_NZ_e8, .imm16 .ld_HL_d16, .op .ld_mHLi_A, .op .inc_HL,
   .op .inc_H, .op .dec_H, .imm8 .ld_H_d8, .op .daa,
   .imm8 .jr_Z_e8, .op .add_HL_HL, .op .ld_A_mHLi, .op .dec_HL,
   .op .inc_L, .op .dec_L, .imm8 .ld_L_d8, .op .cpl]

/-- Row 3x of the primary grid (R116). -/
def primaryRow3 : List Entry :=
  [.imm8 .jr_NC_e8, .imm16 .ld_SP_d16, .op .ld_mHLd_A, .op .inc_SP,
   .op .inc_mHL, .op .dec_mHL, .imm8 .ld_mHL_d8, .op .scf,
   .imm8 .jr_C_e8, .op .add_HL_SP, .op .ld_A_mHLd, .op .dec_SP,
   .op .inc_A, .op .dec_A, .imm8 .ld_A_d8, .op .ccf]

/-- Row 4x of the primary grid (R116). -/
def primaryRow4 : List Entry :=
  [.op .ld_B_B, .op .ld_B_C, .op .ld_B_D, .op .ld_B_E,
   .op .ld_B_H, .op .ld_B_L, .op .ld_B_mHL, .op .ld_B_A,
   .op .ld_C_B, .op .ld_C_C, .op .ld_C_D, .op .ld_C_E,
   .op .ld_C_H, .op .ld_C_L, .op .ld_C_mHL, .op .ld_C_A]

/-- Row 5x of the primary grid (R116). -/
def primaryRow5 : List Entry :=
  [.op .ld_D_B, .op .ld_D_C, .op .ld_D_D, .op .ld_D_E,
   .op .ld_D_H, .op .ld_D_L, .op .ld_D_mHL, .op .ld_D_A,
   .op .ld_E_B, .op .ld_E_C, .op .ld_E_D, .op .ld_E_E,
   .op .ld_E_H, .op .ld_E_L, .op .ld_E_mHL, .op .ld_E_A]

/-- Row 6x of the primary grid (R116). -/
def primaryRow6 : List Entry :=
  [.op .ld_H_B, .op .ld_H_C, .op .ld_H_D, .op .ld_H_E,
   .op .ld_H_H, .op .ld_H_L, .op .ld_H_mHL, .op .ld_H_A,
   .op .ld_L_B, .op .ld_L_C, .op .ld_L_D, .op .ld_L_E,
   .op .ld_L_H, .op .ld_L_L, .op .ld_L_mHL, .op .ld_L_A]

/-- Row 7x of the primary grid (R116). -/
def primaryRow7 : List Entry :=
  [.op .ld_mHL_B, .op .ld_mHL_C, .op .ld_mHL_D, .op .ld_mHL_E,
   .op .ld_mHL_H, .op .ld_mHL_L, .op .halt, .op .ld_mHL_A,
   .op .ld_A_B, .op .ld_A_C, .op .ld_A_D, .op .ld_A_E,
   .op .ld_A_H, .op .ld_A_L, .op .ld_A_mHL, .op .ld_A_A]

/-- Row 8x of the primary grid (R116). -/
def primaryRow8 : List Entry :=
  [.op .add_A_B, .op .add_A_C, .op .add_A_D, .op .add_A_E,
   .op .add_A_H, .op .add_A_L, .op .add_A_mHL, .op .add_A_A,
   .op .adc_A_B, .op .adc_A_C, .op .adc_A_D, .op .adc_A_E,
   .op .adc_A_H, .op .adc_A_L, .op .adc_A_mHL, .op .adc_A_A]

/-- Row 9x of the primary grid (R116). -/
def primaryRow9 : List Entry :=
  [.op .sub_B, .op .sub_C, .op .sub_D, .op .sub_E,
   .op .sub_H, .op .sub_L, .op .sub_mHL, .op .sub_A,
   .op .sbc_A_B, .op .sbc_A_C, .op .sbc_A_D, .op .sbc_A_E,
   .op .sbc_A_H, .op .sbc_A_L, .op .sbc_A_mHL, .op .sbc_A_A]

/-- Row Ax of the primary grid (R116). -/
def primaryRowA : List Entry :=
  [.op .and_B, .op .and_C, .op .and_D, .op .and_E,
   .op .and_H, .op .and_L, .op .and_mHL, .op .and_A,
   .op .xor_B, .op .xor_C, .op .xor_D, .op .xor_E,
   .op .xor_H, .op .xor_L, .op .xor_mHL, .op .xor_A]

/-- Row Bx of the primary grid (R116). -/
def primaryRowB : List Entry :=
  [.op .or_B, .op .or_C, .op .or_D, .op .or_E,
   .op .or_H, .op .or_L, .op .or_mHL, .op .or_A,
   .op .cp_B, .op .cp_C, .op .cp_D, .op .cp_E,
   .op .cp_H, .op .cp_L, .op .cp_mHL, .op .cp_A]

/-- Row Cx of the primary grid (R116). -/
def primaryRowC : List Entry :=
  [.op .ret_NZ, .op .pop_BC, .imm16 .jp_NZ_a16, .imm16 .jp_a16,
   .imm16 .call_NZ_a16, .op .push_BC, .imm8 .add_A_d8, .op .rst_00,
   .op .ret_Z, .op .ret, .imm16 .jp_Z_a16, .cbTable,
   .imm16 .call_Z_a16, .imm16 .call_a16, .imm8 .adc_A_d8, .op .rst_08]

/-- Row Dx of the primary grid (R116). -/
def primaryRowD : List Entry :=
  [.op .ret_NC, .op .pop_DE, .imm16 .jp_NC_a16, .illegal,
   .imm16 .call_NC_a16, .op .push_DE, .imm8 .sub_d8, .op .rst_10,
   .op .ret_C, .op .reti, .imm16 .jp_C_a16, .illegal,
   .imm16 .call_C_a16, .illegal, .imm8 .sbc_A_d8, .op .rst_18]

/-- Row Ex of the primary grid (R116). -/
def primaryRowE : List Entry :=
  [.imm8 .ldh_ma8_A, .op .pop_HL, .op .ld_mC_A, .illegal,
   .illegal, .op .push_HL, .imm8 .and_d8, .op .rst_20,
   .imm8 .add_SP_e8, .op .jp_HL, .imm16 .ld_ma16_A, .illegal,
   .illegal, .illegal, .imm8 .xor_d8, .op .rst_28]

/-- Row Fx of the primary grid (R116). -/
def primaryRowF : List Entry :=
  [.imm8 .ldh_A_ma8, .op .pop_AF, .op .ld_A_mC, .op .di,
   .illegal, .op .push_AF, .imm8 .or_d8, .op .rst_30,
   .imm8 .ld_HL_SPe8, .op .ld_SP_HL, .imm16 .ld_A_ma16, .op .ei,
   .illegal, .illegal, .imm8 .cp_d8, .op .rst_38]

/-- The primary table (R110, R116). -/
def primaryTable : List Entry :=
  primaryRow0 ++ primaryRow1 ++ primaryRow2 ++ primaryRow3 ++
  primaryRow4 ++ primaryRow5 ++ primaryRow6 ++ primaryRow7 ++
  primaryRow8 ++ primaryRow9 ++ primaryRowA ++ primaryRowB ++
  primaryRowC ++ primaryRowD ++ primaryRowE ++ primaryRowF

/-- Row 0x of the extended grid (R117). -/
def extendedRow0 : List Instr :=
  [.rlc_B, .rlc_C, .rlc_D, .rlc_E,
   .rlc_H, .rlc_L, .rlc_mHL, .rlc_A,
   .rrc_B, .rrc_C, .rrc_D, .rrc_E,
   .rrc_H, .rrc_L, .rrc_mHL, .rrc_A]

/-- Row 1x of the extended grid (R117). -/
def extendedRow1 : List Instr :=
  [.rl_B, .rl_C, .rl_D, .rl_E,
   .rl_H, .rl_L, .rl_mHL, .rl_A,
   .rr_B, .rr_C, .rr_D, .rr_E,
   .rr_H, .rr_L, .rr_mHL, .rr_A]

/-- Row 2x of the extended grid (R117). -/
def extendedRow2 : List Instr :=
  [.sla_B, .sla_C, .sla_D, .sla_E,
   .sla_H, .sla_L, .sla_mHL, .sla_A,
   .sra_B, .sra_C, .sra_D, .sra_E,
   .sra_H, .sra_L, .sra_mHL, .sra_A]

/-- Row 3x of the extended grid (R117). -/
def extendedRow3 : List Instr :=
  [.swap_B, .swap_C, .swap_D, .swap_E,
   .swap_H, .swap_L, .swap_mHL, .swap_A,
   .srl_B, .srl_C, .srl_D, .srl_E,
   .srl_H, .srl_L, .srl_mHL, .srl_A]

/-- Row 4x of the extended grid (R117). -/
def extendedRow4 : List Instr :=
  [.bit_0_B, .bit_0_C, .bit_0_D, .bit_0_E,
   .bit_0_H, .bit_0_L, .bit_0_mHL, .bit_0_A,
   .bit_1_B, .bit_1_C, .bit_1_D, .bit_1_E,
   .bit_1_H, .bit_1_L, .bit_1_mHL, .bit_1_A]

/-- Row 5x of the extended grid (R117). -/
def extendedRow5 : List Instr :=
  [.bit_2_B, .bit_2_C, .bit_2_D, .bit_2_E,
   .bit_2_H, .bit_2_L, .bit_2_mHL, .bit_2_A,
   .bit_3_B, .bit_3_C, .bit_3_D, .bit_3_E,
   .bit_3_H, .bit_3_L, .bit_3_mHL, .bit_3_A]

/-- Row 6x of the extended grid (R117). -/
def extendedRow6 : List Instr :=
  [.bit_4_B, .bit_4_C, .bit_4_D, .bit_4_E,
   .bit_4_H, .bit_4_L, .bit_4_mHL, .bit_4_A,
   .bit_5_B, .bit_5_C, .bit_5_D, .bit_5_E,
   .bit_5_H, .bit_5_L, .bit_5_mHL, .bit_5_A]

/-- Row 7x of the extended grid (R117). -/
def extendedRow7 : List Instr :=
  [.bit_6_B, .bit_6_C, .bit_6_D, .bit_6_E,
   .bit_6_H, .bit_6_L, .bit_6_mHL, .bit_6_A,
   .bit_7_B, .bit_7_C, .bit_7_D, .bit_7_E,
   .bit_7_H, .bit_7_L, .bit_7_mHL, .bit_7_A]

/-- Row 8x of the extended grid (R117). -/
def extendedRow8 : List Instr :=
  [.res_0_B, .res_0_C, .res_0_D, .res_0_E,
   .res_0_H, .res_0_L, .res_0_mHL, .res_0_A,
   .res_1_B, .res_1_C, .res_1_D, .res_1_E,
   .res_1_H, .res_1_L, .res_1_mHL, .res_1_A]

/-- Row 9x of the extended grid (R117). -/
def extendedRow9 : List Instr :=
  [.res_2_B, .res_2_C, .res_2_D, .res_2_E,
   .res_2_H, .res_2_L, .res_2_mHL, .res_2_A,
   .res_3_B, .res_3_C, .res_3_D, .res_3_E,
   .res_3_H, .res_3_L, .res_3_mHL, .res_3_A]

/-- Row Ax of the extended grid (R117). -/
def extendedRowA : List Instr :=
  [.res_4_B, .res_4_C, .res_4_D, .res_4_E,
   .res_4_H, .res_4_L, .res_4_mHL, .res_4_A,
   .res_5_B, .res_5_C, .res_5_D, .res_5_E,
   .res_5_H, .res_5_L, .res_5_mHL, .res_5_A]

/-- Row Bx of the extended grid (R117). -/
def extendedRowB : List Instr :=
  [.res_6_B, .res_6_C, .res_6_D, .res_6_E,
   .res_6_H, .res_6_L, .res_6_mHL, .res_6_A,
   .res_7_B, .res_7_C, .res_7_D, .res_7_E,
   .res_7_H, .res_7_L, .res_7_mHL, .res_7_A]

/-- Row Cx of the extended grid (R117). -/
def extendedRowC : List Instr :=
  [.set_0_B, .set_0_C, .set_0_D, .set_0_E,
   .set_0_H, .set_0_L, .set_0_mHL, .set_0_A,
   .set_1_B, .set_1_C, .set_1_D, .set_1_E,
   .set_1_H, .set_1_L, .set_1_mHL, .set_1_A]

/-- Row Dx of the extended grid (R117). -/
def extendedRowD : List Instr :=
  [.set_2_B, .set_2_C, .set_2_D, .set_2_E,
   .set_2_H, .set_2_L, .set_2_mHL, .set_2_A,
   .set_3_B, .set_3_C, .set_3_D, .set_3_E,
   .set_3_H, .set_3_L, .set_3_mHL, .set_3_A]

/-- Row Ex of the extended grid (R117). -/
def extendedRowE : List Instr :=
  [.set_4_B, .set_4_C, .set_4_D, .set_4_E,
   .set_4_H, .set_4_L, .set_4_mHL, .set_4_A,
   .set_5_B, .set_5_C, .set_5_D, .set_5_E,
   .set_5_H, .set_5_L, .set_5_mHL, .set_5_A]

/-- Row Fx of the extended grid (R117). -/
def extendedRowF : List Instr :=
  [.set_6_B, .set_6_C, .set_6_D, .set_6_E,
   .set_6_H, .set_6_L, .set_6_mHL, .set_6_A,
   .set_7_B, .set_7_C, .set_7_D, .set_7_E,
   .set_7_H, .set_7_L, .set_7_mHL, .set_7_A]

/-- The extended table (R110, R117). -/
def extendedTable : List Instr :=
  extendedRow0 ++ extendedRow1 ++ extendedRow2 ++ extendedRow3 ++
  extendedRow4 ++ extendedRow5 ++ extendedRow6 ++ extendedRow7 ++
  extendedRow8 ++ extendedRow9 ++ extendedRowA ++ extendedRowB ++
  extendedRowC ++ extendedRowD ++ extendedRowE ++ extendedRowF

/-- `Primary[op]` (R111); the table has 256 entries, so the default is never taken. -/
def primaryEntry (op : Byte) : Entry := primaryTable.getD op.toNat .illegal

/-- `Extended[op2]` (R111); the table has 256 entries, so the default is never taken. -/
def extended (op2 : Byte) : Instr := extendedTable.getD op2.toNat .nop

/-- How many bytes follow the first: `ImmLen(op)`, and 1 after 0xCB (R115). -/
def bytesAfter (op : Byte) : Nat :=
  match primaryEntry op with
  | .op _ => 0
  | .imm8 _ => 1
  | .imm16 _ => 2
  | .cbTable => 1
  | .illegal => 0

/-! ### The decoder (R111) -/

/-- Why bytes hold no instruction. -/
inductive DecodeError where
  /-- There is no first byte. -/
  | noBytes
  /-- The bytes end before the instruction that starts with `op` does. -/
  | truncated (op : Byte)
deriving DecidableEq, Repr

/-- `Decode` on bytes: the instruction at their head and the bytes after it (R111). An ILLEGAL byte decodes to
`illegal`, whose meaning is the fault (R112; log entry 8). -/
def decode (bytes : List Byte) : Except DecodeError (Instr × List Byte) :=
  match bytes with
  | [] => .error .noBytes
  | op :: rest =>
    match primaryEntry op, rest with
    | .op i, rest => .ok (i, rest)
    | .imm8 f, b1 :: rest => .ok (f b1, rest)
    | .imm16 f, b1 :: b2 :: rest => .ok (f (wordOfBytes b2 b1), rest)
    | .cbTable, op2 :: rest => .ok (extended op2, rest)
    | .illegal, rest => .ok (.illegal op, rest)
    | _, _ => .error (.truncated op)

/-! ### The encoder (R101, R116, R117) -/

/-- The bytes of an instruction, lowest address first (R101). -/
def encode (i : Instr) : List Byte :=
  match i with
  | .nop => [0x00]
  | .ld_BC_d16 n => [0x01, lowByte n, highByte n]
  | .ld_mBC_A => [0x02]
  | .inc_BC => [0x03]
  | .inc_B => [0x04]
  | .dec_B => [0x05]
  | .ld_B_d8 n => [0x06, n]
  | .rlca => [0x07]
  | .ld_ma16_SP n => [0x08, lowByte n, highByte n]
  | .add_HL_BC => [0x09]
  | .ld_A_mBC => [0x0A]
  | .dec_BC => [0x0B]
  | .inc_C => [0x0C]
  | .dec_C => [0x0D]
  | .ld_C_d8 n => [0x0E, n]
  | .rrca => [0x0F]
  | .stop n => [0x10, n]
  | .ld_DE_d16 n => [0x11, lowByte n, highByte n]
  | .ld_mDE_A => [0x12]
  | .inc_DE => [0x13]
  | .inc_D => [0x14]
  | .dec_D => [0x15]
  | .ld_D_d8 n => [0x16, n]
  | .rla => [0x17]
  | .jr_e8 n => [0x18, n]
  | .add_HL_DE => [0x19]
  | .ld_A_mDE => [0x1A]
  | .dec_DE => [0x1B]
  | .inc_E => [0x1C]
  | .dec_E => [0x1D]
  | .ld_E_d8 n => [0x1E, n]
  | .rra => [0x1F]
  | .jr_NZ_e8 n => [0x20, n]
  | .ld_HL_d16 n => [0x21, lowByte n, highByte n]
  | .ld_mHLi_A => [0x22]
  | .inc_HL => [0x23]
  | .inc_H => [0x24]
  | .dec_H => [0x25]
  | .ld_H_d8 n => [0x26, n]
  | .daa => [0x27]
  | .jr_Z_e8 n => [0x28, n]
  | .add_HL_HL => [0x29]
  | .ld_A_mHLi => [0x2A]
  | .dec_HL => [0x2B]
  | .inc_L => [0x2C]
  | .dec_L => [0x2D]
  | .ld_L_d8 n => [0x2E, n]
  | .cpl => [0x2F]
  | .jr_NC_e8 n => [0x30, n]
  | .ld_SP_d16 n => [0x31, lowByte n, highByte n]
  | .ld_mHLd_A => [0x32]
  | .inc_SP => [0x33]
  | .inc_mHL => [0x34]
  | .dec_mHL => [0x35]
  | .ld_mHL_d8 n => [0x36, n]
  | .scf => [0x37]
  | .jr_C_e8 n => [0x38, n]
  | .add_HL_SP => [0x39]
  | .ld_A_mHLd => [0x3A]
  | .dec_SP => [0x3B]
  | .inc_A => [0x3C]
  | .dec_A => [0x3D]
  | .ld_A_d8 n => [0x3E, n]
  | .ccf => [0x3F]
  | .ld_B_B => [0x40]
  | .ld_B_C => [0x41]
  | .ld_B_D => [0x42]
  | .ld_B_E => [0x43]
  | .ld_B_H => [0x44]
  | .ld_B_L => [0x45]
  | .ld_B_mHL => [0x46]
  | .ld_B_A => [0x47]
  | .ld_C_B => [0x48]
  | .ld_C_C => [0x49]
  | .ld_C_D => [0x4A]
  | .ld_C_E => [0x4B]
  | .ld_C_H => [0x4C]
  | .ld_C_L => [0x4D]
  | .ld_C_mHL => [0x4E]
  | .ld_C_A => [0x4F]
  | .ld_D_B => [0x50]
  | .ld_D_C => [0x51]
  | .ld_D_D => [0x52]
  | .ld_D_E => [0x53]
  | .ld_D_H => [0x54]
  | .ld_D_L => [0x55]
  | .ld_D_mHL => [0x56]
  | .ld_D_A => [0x57]
  | .ld_E_B => [0x58]
  | .ld_E_C => [0x59]
  | .ld_E_D => [0x5A]
  | .ld_E_E => [0x5B]
  | .ld_E_H => [0x5C]
  | .ld_E_L => [0x5D]
  | .ld_E_mHL => [0x5E]
  | .ld_E_A => [0x5F]
  | .ld_H_B => [0x60]
  | .ld_H_C => [0x61]
  | .ld_H_D => [0x62]
  | .ld_H_E => [0x63]
  | .ld_H_H => [0x64]
  | .ld_H_L => [0x65]
  | .ld_H_mHL => [0x66]
  | .ld_H_A => [0x67]
  | .ld_L_B => [0x68]
  | .ld_L_C => [0x69]
  | .ld_L_D => [0x6A]
  | .ld_L_E => [0x6B]
  | .ld_L_H => [0x6C]
  | .ld_L_L => [0x6D]
  | .ld_L_mHL => [0x6E]
  | .ld_L_A => [0x6F]
  | .ld_mHL_B => [0x70]
  | .ld_mHL_C => [0x71]
  | .ld_mHL_D => [0x72]
  | .ld_mHL_E => [0x73]
  | .ld_mHL_H => [0x74]
  | .ld_mHL_L => [0x75]
  | .halt => [0x76]
  | .ld_mHL_A => [0x77]
  | .ld_A_B => [0x78]
  | .ld_A_C => [0x79]
  | .ld_A_D => [0x7A]
  | .ld_A_E => [0x7B]
  | .ld_A_H => [0x7C]
  | .ld_A_L => [0x7D]
  | .ld_A_mHL => [0x7E]
  | .ld_A_A => [0x7F]
  | .add_A_B => [0x80]
  | .add_A_C => [0x81]
  | .add_A_D => [0x82]
  | .add_A_E => [0x83]
  | .add_A_H => [0x84]
  | .add_A_L => [0x85]
  | .add_A_mHL => [0x86]
  | .add_A_A => [0x87]
  | .adc_A_B => [0x88]
  | .adc_A_C => [0x89]
  | .adc_A_D => [0x8A]
  | .adc_A_E => [0x8B]
  | .adc_A_H => [0x8C]
  | .adc_A_L => [0x8D]
  | .adc_A_mHL => [0x8E]
  | .adc_A_A => [0x8F]
  | .sub_B => [0x90]
  | .sub_C => [0x91]
  | .sub_D => [0x92]
  | .sub_E => [0x93]
  | .sub_H => [0x94]
  | .sub_L => [0x95]
  | .sub_mHL => [0x96]
  | .sub_A => [0x97]
  | .sbc_A_B => [0x98]
  | .sbc_A_C => [0x99]
  | .sbc_A_D => [0x9A]
  | .sbc_A_E => [0x9B]
  | .sbc_A_H => [0x9C]
  | .sbc_A_L => [0x9D]
  | .sbc_A_mHL => [0x9E]
  | .sbc_A_A => [0x9F]
  | .and_B => [0xA0]
  | .and_C => [0xA1]
  | .and_D => [0xA2]
  | .and_E => [0xA3]
  | .and_H => [0xA4]
  | .and_L => [0xA5]
  | .and_mHL => [0xA6]
  | .and_A => [0xA7]
  | .xor_B => [0xA8]
  | .xor_C => [0xA9]
  | .xor_D => [0xAA]
  | .xor_E => [0xAB]
  | .xor_H => [0xAC]
  | .xor_L => [0xAD]
  | .xor_mHL => [0xAE]
  | .xor_A => [0xAF]
  | .or_B => [0xB0]
  | .or_C => [0xB1]
  | .or_D => [0xB2]
  | .or_E => [0xB3]
  | .or_H => [0xB4]
  | .or_L => [0xB5]
  | .or_mHL => [0xB6]
  | .or_A => [0xB7]
  | .cp_B => [0xB8]
  | .cp_C => [0xB9]
  | .cp_D => [0xBA]
  | .cp_E => [0xBB]
  | .cp_H => [0xBC]
  | .cp_L => [0xBD]
  | .cp_mHL => [0xBE]
  | .cp_A => [0xBF]
  | .ret_NZ => [0xC0]
  | .pop_BC => [0xC1]
  | .jp_NZ_a16 n => [0xC2, lowByte n, highByte n]
  | .jp_a16 n => [0xC3, lowByte n, highByte n]
  | .call_NZ_a16 n => [0xC4, lowByte n, highByte n]
  | .push_BC => [0xC5]
  | .add_A_d8 n => [0xC6, n]
  | .rst_00 => [0xC7]
  | .ret_Z => [0xC8]
  | .ret => [0xC9]
  | .jp_Z_a16 n => [0xCA, lowByte n, highByte n]
  | .call_Z_a16 n => [0xCC, lowByte n, highByte n]
  | .call_a16 n => [0xCD, lowByte n, highByte n]
  | .adc_A_d8 n => [0xCE, n]
  | .rst_08 => [0xCF]
  | .ret_NC => [0xD0]
  | .pop_DE => [0xD1]
  | .jp_NC_a16 n => [0xD2, lowByte n, highByte n]
  | .call_NC_a16 n => [0xD4, lowByte n, highByte n]
  | .push_DE => [0xD5]
  | .sub_d8 n => [0xD6, n]
  | .rst_10 => [0xD7]
  | .ret_C => [0xD8]
  | .reti => [0xD9]
  | .jp_C_a16 n => [0xDA, lowByte n, highByte n]
  | .call_C_a16 n => [0xDC, lowByte n, highByte n]
  | .sbc_A_d8 n => [0xDE, n]
  | .rst_18 => [0xDF]
  | .ldh_ma8_A n => [0xE0, n]
  | .pop_HL => [0xE1]
  | .ld_mC_A => [0xE2]
  | .push_HL => [0xE5]
  | .and_d8 n => [0xE6, n]
  | .rst_20 => [0xE7]
  | .add_SP_e8 n => [0xE8, n]
  | .jp_HL => [0xE9]
  | .ld_ma16_A n => [0xEA, lowByte n, highByte n]
  | .xor_d8 n => [0xEE, n]
  | .rst_28 => [0xEF]
  | .ldh_A_ma8 n => [0xF0, n]
  | .pop_AF => [0xF1]
  | .ld_A_mC => [0xF2]
  | .di => [0xF3]
  | .push_AF => [0xF5]
  | .or_d8 n => [0xF6, n]
  | .rst_30 => [0xF7]
  | .ld_HL_SPe8 n => [0xF8, n]
  | .ld_SP_HL => [0xF9]
  | .ld_A_ma16 n => [0xFA, lowByte n, highByte n]
  | .ei => [0xFB]
  | .cp_d8 n => [0xFE, n]
  | .rst_38 => [0xFF]
  | .rlc_B => [0xCB, 0x00]
  | .rlc_C => [0xCB, 0x01]
  | .rlc_D => [0xCB, 0x02]
  | .rlc_E => [0xCB, 0x03]
  | .rlc_H => [0xCB, 0x04]
  | .rlc_L => [0xCB, 0x05]
  | .rlc_mHL => [0xCB, 0x06]
  | .rlc_A => [0xCB, 0x07]
  | .rrc_B => [0xCB, 0x08]
  | .rrc_C => [0xCB, 0x09]
  | .rrc_D => [0xCB, 0x0A]
  | .rrc_E => [0xCB, 0x0B]
  | .rrc_H => [0xCB, 0x0C]
  | .rrc_L => [0xCB, 0x0D]
  | .rrc_mHL => [0xCB, 0x0E]
  | .rrc_A => [0xCB, 0x0F]
  | .rl_B => [0xCB, 0x10]
  | .rl_C => [0xCB, 0x11]
  | .rl_D => [0xCB, 0x12]
  | .rl_E => [0xCB, 0x13]
  | .rl_H => [0xCB, 0x14]
  | .rl_L => [0xCB, 0x15]
  | .rl_mHL => [0xCB, 0x16]
  | .rl_A => [0xCB, 0x17]
  | .rr_B => [0xCB, 0x18]
  | .rr_C => [0xCB, 0x19]
  | .rr_D => [0xCB, 0x1A]
  | .rr_E => [0xCB, 0x1B]
  | .rr_H => [0xCB, 0x1C]
  | .rr_L => [0xCB, 0x1D]
  | .rr_mHL => [0xCB, 0x1E]
  | .rr_A => [0xCB, 0x1F]
  | .sla_B => [0xCB, 0x20]
  | .sla_C => [0xCB, 0x21]
  | .sla_D => [0xCB, 0x22]
  | .sla_E => [0xCB, 0x23]
  | .sla_H => [0xCB, 0x24]
  | .sla_L => [0xCB, 0x25]
  | .sla_mHL => [0xCB, 0x26]
  | .sla_A => [0xCB, 0x27]
  | .sra_B => [0xCB, 0x28]
  | .sra_C => [0xCB, 0x29]
  | .sra_D => [0xCB, 0x2A]
  | .sra_E => [0xCB, 0x2B]
  | .sra_H => [0xCB, 0x2C]
  | .sra_L => [0xCB, 0x2D]
  | .sra_mHL => [0xCB, 0x2E]
  | .sra_A => [0xCB, 0x2F]
  | .swap_B => [0xCB, 0x30]
  | .swap_C => [0xCB, 0x31]
  | .swap_D => [0xCB, 0x32]
  | .swap_E => [0xCB, 0x33]
  | .swap_H => [0xCB, 0x34]
  | .swap_L => [0xCB, 0x35]
  | .swap_mHL => [0xCB, 0x36]
  | .swap_A => [0xCB, 0x37]
  | .srl_B => [0xCB, 0x38]
  | .srl_C => [0xCB, 0x39]
  | .srl_D => [0xCB, 0x3A]
  | .srl_E => [0xCB, 0x3B]
  | .srl_H => [0xCB, 0x3C]
  | .srl_L => [0xCB, 0x3D]
  | .srl_mHL => [0xCB, 0x3E]
  | .srl_A => [0xCB, 0x3F]
  | .bit_0_B => [0xCB, 0x40]
  | .bit_0_C => [0xCB, 0x41]
  | .bit_0_D => [0xCB, 0x42]
  | .bit_0_E => [0xCB, 0x43]
  | .bit_0_H => [0xCB, 0x44]
  | .bit_0_L => [0xCB, 0x45]
  | .bit_0_mHL => [0xCB, 0x46]
  | .bit_0_A => [0xCB, 0x47]
  | .bit_1_B => [0xCB, 0x48]
  | .bit_1_C => [0xCB, 0x49]
  | .bit_1_D => [0xCB, 0x4A]
  | .bit_1_E => [0xCB, 0x4B]
  | .bit_1_H => [0xCB, 0x4C]
  | .bit_1_L => [0xCB, 0x4D]
  | .bit_1_mHL => [0xCB, 0x4E]
  | .bit_1_A => [0xCB, 0x4F]
  | .bit_2_B => [0xCB, 0x50]
  | .bit_2_C => [0xCB, 0x51]
  | .bit_2_D => [0xCB, 0x52]
  | .bit_2_E => [0xCB, 0x53]
  | .bit_2_H => [0xCB, 0x54]
  | .bit_2_L => [0xCB, 0x55]
  | .bit_2_mHL => [0xCB, 0x56]
  | .bit_2_A => [0xCB, 0x57]
  | .bit_3_B => [0xCB, 0x58]
  | .bit_3_C => [0xCB, 0x59]
  | .bit_3_D => [0xCB, 0x5A]
  | .bit_3_E => [0xCB, 0x5B]
  | .bit_3_H => [0xCB, 0x5C]
  | .bit_3_L => [0xCB, 0x5D]
  | .bit_3_mHL => [0xCB, 0x5E]
  | .bit_3_A => [0xCB, 0x5F]
  | .bit_4_B => [0xCB, 0x60]
  | .bit_4_C => [0xCB, 0x61]
  | .bit_4_D => [0xCB, 0x62]
  | .bit_4_E => [0xCB, 0x63]
  | .bit_4_H => [0xCB, 0x64]
  | .bit_4_L => [0xCB, 0x65]
  | .bit_4_mHL => [0xCB, 0x66]
  | .bit_4_A => [0xCB, 0x67]
  | .bit_5_B => [0xCB, 0x68]
  | .bit_5_C => [0xCB, 0x69]
  | .bit_5_D => [0xCB, 0x6A]
  | .bit_5_E => [0xCB, 0x6B]
  | .bit_5_H => [0xCB, 0x6C]
  | .bit_5_L => [0xCB, 0x6D]
  | .bit_5_mHL => [0xCB, 0x6E]
  | .bit_5_A => [0xCB, 0x6F]
  | .bit_6_B => [0xCB, 0x70]
  | .bit_6_C => [0xCB, 0x71]
  | .bit_6_D => [0xCB, 0x72]
  | .bit_6_E => [0xCB, 0x73]
  | .bit_6_H => [0xCB, 0x74]
  | .bit_6_L => [0xCB, 0x75]
  | .bit_6_mHL => [0xCB, 0x76]
  | .bit_6_A => [0xCB, 0x77]
  | .bit_7_B => [0xCB, 0x78]
  | .bit_7_C => [0xCB, 0x79]
  | .bit_7_D => [0xCB, 0x7A]
  | .bit_7_E => [0xCB, 0x7B]
  | .bit_7_H => [0xCB, 0x7C]
  | .bit_7_L => [0xCB, 0x7D]
  | .bit_7_mHL => [0xCB, 0x7E]
  | .bit_7_A => [0xCB, 0x7F]
  | .res_0_B => [0xCB, 0x80]
  | .res_0_C => [0xCB, 0x81]
  | .res_0_D => [0xCB, 0x82]
  | .res_0_E => [0xCB, 0x83]
  | .res_0_H => [0xCB, 0x84]
  | .res_0_L => [0xCB, 0x85]
  | .res_0_mHL => [0xCB, 0x86]
  | .res_0_A => [0xCB, 0x87]
  | .res_1_B => [0xCB, 0x88]
  | .res_1_C => [0xCB, 0x89]
  | .res_1_D => [0xCB, 0x8A]
  | .res_1_E => [0xCB, 0x8B]
  | .res_1_H => [0xCB, 0x8C]
  | .res_1_L => [0xCB, 0x8D]
  | .res_1_mHL => [0xCB, 0x8E]
  | .res_1_A => [0xCB, 0x8F]
  | .res_2_B => [0xCB, 0x90]
  | .res_2_C => [0xCB, 0x91]
  | .res_2_D => [0xCB, 0x92]
  | .res_2_E => [0xCB, 0x93]
  | .res_2_H => [0xCB, 0x94]
  | .res_2_L => [0xCB, 0x95]
  | .res_2_mHL => [0xCB, 0x96]
  | .res_2_A => [0xCB, 0x97]
  | .res_3_B => [0xCB, 0x98]
  | .res_3_C => [0xCB, 0x99]
  | .res_3_D => [0xCB, 0x9A]
  | .res_3_E => [0xCB, 0x9B]
  | .res_3_H => [0xCB, 0x9C]
  | .res_3_L => [0xCB, 0x9D]
  | .res_3_mHL => [0xCB, 0x9E]
  | .res_3_A => [0xCB, 0x9F]
  | .res_4_B => [0xCB, 0xA0]
  | .res_4_C => [0xCB, 0xA1]
  | .res_4_D => [0xCB, 0xA2]
  | .res_4_E => [0xCB, 0xA3]
  | .res_4_H => [0xCB, 0xA4]
  | .res_4_L => [0xCB, 0xA5]
  | .res_4_mHL => [0xCB, 0xA6]
  | .res_4_A => [0xCB, 0xA7]
  | .res_5_B => [0xCB, 0xA8]
  | .res_5_C => [0xCB, 0xA9]
  | .res_5_D => [0xCB, 0xAA]
  | .res_5_E => [0xCB, 0xAB]
  | .res_5_H => [0xCB, 0xAC]
  | .res_5_L => [0xCB, 0xAD]
  | .res_5_mHL => [0xCB, 0xAE]
  | .res_5_A => [0xCB, 0xAF]
  | .res_6_B => [0xCB, 0xB0]
  | .res_6_C => [0xCB, 0xB1]
  | .res_6_D => [0xCB, 0xB2]
  | .res_6_E => [0xCB, 0xB3]
  | .res_6_H => [0xCB, 0xB4]
  | .res_6_L => [0xCB, 0xB5]
  | .res_6_mHL => [0xCB, 0xB6]
  | .res_6_A => [0xCB, 0xB7]
  | .res_7_B => [0xCB, 0xB8]
  | .res_7_C => [0xCB, 0xB9]
  | .res_7_D => [0xCB, 0xBA]
  | .res_7_E => [0xCB, 0xBB]
  | .res_7_H => [0xCB, 0xBC]
  | .res_7_L => [0xCB, 0xBD]
  | .res_7_mHL => [0xCB, 0xBE]
  | .res_7_A => [0xCB, 0xBF]
  | .set_0_B => [0xCB, 0xC0]
  | .set_0_C => [0xCB, 0xC1]
  | .set_0_D => [0xCB, 0xC2]
  | .set_0_E => [0xCB, 0xC3]
  | .set_0_H => [0xCB, 0xC4]
  | .set_0_L => [0xCB, 0xC5]
  | .set_0_mHL => [0xCB, 0xC6]
  | .set_0_A => [0xCB, 0xC7]
  | .set_1_B => [0xCB, 0xC8]
  | .set_1_C => [0xCB, 0xC9]
  | .set_1_D => [0xCB, 0xCA]
  | .set_1_E => [0xCB, 0xCB]
  | .set_1_H => [0xCB, 0xCC]
  | .set_1_L => [0xCB, 0xCD]
  | .set_1_mHL => [0xCB, 0xCE]
  | .set_1_A => [0xCB, 0xCF]
  | .set_2_B => [0xCB, 0xD0]
  | .set_2_C => [0xCB, 0xD1]
  | .set_2_D => [0xCB, 0xD2]
  | .set_2_E => [0xCB, 0xD3]
  | .set_2_H => [0xCB, 0xD4]
  | .set_2_L => [0xCB, 0xD5]
  | .set_2_mHL => [0xCB, 0xD6]
  | .set_2_A => [0xCB, 0xD7]
  | .set_3_B => [0xCB, 0xD8]
  | .set_3_C => [0xCB, 0xD9]
  | .set_3_D => [0xCB, 0xDA]
  | .set_3_E => [0xCB, 0xDB]
  | .set_3_H => [0xCB, 0xDC]
  | .set_3_L => [0xCB, 0xDD]
  | .set_3_mHL => [0xCB, 0xDE]
  | .set_3_A => [0xCB, 0xDF]
  | .set_4_B => [0xCB, 0xE0]
  | .set_4_C => [0xCB, 0xE1]
  | .set_4_D => [0xCB, 0xE2]
  | .set_4_E => [0xCB, 0xE3]
  | .set_4_H => [0xCB, 0xE4]
  | .set_4_L => [0xCB, 0xE5]
  | .set_4_mHL => [0xCB, 0xE6]
  | .set_4_A => [0xCB, 0xE7]
  | .set_5_B => [0xCB, 0xE8]
  | .set_5_C => [0xCB, 0xE9]
  | .set_5_D => [0xCB, 0xEA]
  | .set_5_E => [0xCB, 0xEB]
  | .set_5_H => [0xCB, 0xEC]
  | .set_5_L => [0xCB, 0xED]
  | .set_5_mHL => [0xCB, 0xEE]
  | .set_5_A => [0xCB, 0xEF]
  | .set_6_B => [0xCB, 0xF0]
  | .set_6_C => [0xCB, 0xF1]
  | .set_6_D => [0xCB, 0xF2]
  | .set_6_E => [0xCB, 0xF3]
  | .set_6_H => [0xCB, 0xF4]
  | .set_6_L => [0xCB, 0xF5]
  | .set_6_mHL => [0xCB, 0xF6]
  | .set_6_A => [0xCB, 0xF7]
  | .set_7_B => [0xCB, 0xF8]
  | .set_7_C => [0xCB, 0xF9]
  | .set_7_D => [0xCB, 0xFA]
  | .set_7_E => [0xCB, 0xFB]
  | .set_7_H => [0xCB, 0xFC]
  | .set_7_L => [0xCB, 0xFD]
  | .set_7_mHL => [0xCB, 0xFE]
  | .set_7_A => [0xCB, 0xFF]
  | .illegal op => [op]

/-! ### A word of the opcode table -/

/-- The first three bytes, lowest address first, of the instruction whose bits are `w` as spec/opcode_table.json
numbers them: byte k is bits 8k+7 to 8k, and what lies at or above bit `nbits` is 0. The table numbers a row of the
extended grid with the 0xCB byte, which is fetched first, as bits 15 to 8 (log entry 7). -/
def tableBytes (nbits w : Nat) : List Byte :=
  let v := w % 2 ^ nbits
  if nbits = 16 ∧ v / 256 = 0xCB then [0xCB, BitVec.ofNat 8 v, 0x00]
  else [BitVec.ofNat 8 v, BitVec.ofNat 8 (v / 256), BitVec.ofNat 8 (v / 65536)]

/-- The instruction the decoder reads from a word of the opcode table. -/
def decodeTableWord (nbits w : Nat) : Option Instr :=
  match decode (tableBytes nbits w) with
  | .ok (i, _) => some i
  | .error _ => none

end Sys2Proof
end

