-- ==== Sys2Proof/Config.lean ====
section
/-! DEFINITION. The parameters of the core (spec/00_scope.md R8), their defaults, and its one free value. -/

namespace Sys2Proof

/-- A memory: index and byte, in one canonical form (`Machine.Memory.wf`): indices strictly rising, no entry equal
to what an unlisted index reads as. -/
abbrev Memory := List Host.Cell

/-- `halt_mode` (00_scope.md R8; 46_processor_control.md R301). -/
inductive HaltMode where
  | stall
  | nop
deriving DecidableEq, Repr

/-- `rom_read_mode` (00_scope.md R8; 20_memory.md R77). -/
inductive RomReadMode where
  | flat
  | banked
deriving DecidableEq, Repr

/-- `cart_ram_mode` (00_scope.md R8): `backed(n)` is allowed only for n = 8192 (20_memory.md R73). -/
inductive CartRamMode where
  | stub
  | backed8K
deriving DecidableEq, Repr

/-- The parameters the model takes as arguments, each fixed for a run (00_scope.md R8). -/
structure Params where
  /-- `rom_image`: the bytes at indices below `romLen`; an index that is not listed holds 0x00. -/
  rom : Memory
  /-- `ROM_LEN`. -/
  romLen : Nat
  cartTypeCode : Byte
  /-- `mapper_for_type`: the codes it maps to the one mapper variant, BankSwitching. -/
  mapperForType : List Byte
  unimplementedOpcodes : List Byte
  haltMode : HaltMode
  romReadMode : RomReadMode
  romBankMask : Byte
  cartRamMode : CartRamMode
  wramInit : Memory
  hramInit : Memory
  /-- The initial contents of a backed cartridge RAM (OPEN, 10_state.md R42). -/
  cartRamInit : Memory
  resetA : Byte
  /-- `cycles_primary`, indexed by the primary opcode; its entries 0x00 and 0xCD are never read, since R370 fixes
  their costs (70_reset_and_hazards.md R370). -/
  cyclesPrimary : List Nat
  /-- `cycles_cb_inner`, indexed by the extended opcode. -/
  cyclesCbInner : List Nat
deriving DecidableEq, Repr

/-- The default `cycles_primary`, one row of the grid a line; 0 stands where no instruction does
(70_reset_and_hazards.md R371). -/
def defaultCyclesPrimary : List Nat :=
  [4, 12, 8, 8, 4, 4, 8, 4, 20, 8, 8, 8, 4, 4, 8, 4] ++
  [4, 12, 8, 8, 4, 4, 8, 4, 8, 8, 8, 8, 4, 4, 8, 4] ++
  [8, 12, 8, 8, 4, 4, 8, 4, 8, 8, 8, 8, 4, 4, 8, 4] ++
  [8, 12, 8, 8, 12, 12, 12, 4, 8, 8, 8, 8, 4, 4, 8, 4] ++
  [4, 4, 4, 4, 4, 4, 8, 4, 4, 4, 4, 4, 4, 4, 8, 4] ++
  [4, 4, 4, 4, 4, 4, 8, 4, 4, 4, 4, 4, 4, 4, 8, 4] ++
  [4, 4, 4, 4, 4, 4, 8, 4, 4, 4, 4, 4, 4, 4, 8, 4] ++
  [8, 8, 8, 8, 8, 8, 4, 8, 4, 4, 4, 4, 4, 4, 8, 4] ++
  [4, 4, 4, 4, 4, 4, 8, 4, 4, 4, 4, 4, 4, 4, 8, 4] ++
  [4, 4, 4, 4, 4, 4, 8, 4, 4, 4, 4, 4, 4, 4, 8, 4] ++
  [4, 4, 4, 4, 4, 4, 8, 4, 4, 4, 4, 4, 4, 4, 8, 4] ++
  [4, 4, 4, 4, 4, 4, 8, 4, 4, 4, 4, 4, 4, 4, 8, 4] ++
  [8, 12, 12, 12, 12, 16, 8, 32, 8, 8, 12, 0, 12, 12, 8, 32] ++
  [8, 12, 12, 0, 12, 16, 8, 32, 8, 8, 12, 0, 12, 0, 8, 32] ++
  [12, 12, 8, 0, 0, 16, 8, 32, 16, 4, 16, 0, 0, 0, 8, 32] ++
  [12, 12, 8, 4, 0, 16, 8, 32, 12, 8, 16, 4, 0, 0, 8, 32]

/-- The default `cycles_cb_inner`: 8 for register operands, 16 for (HL) operands (00_scope.md R8,
70_reset_and_hazards.md R371). -/
def defaultCyclesCbInner : List Nat :=
  (List.replicate 32 [8, 8, 8, 8, 8, 8, 16, 8]).flatten

/-- The defaults of 00_scope.md R8. Where R8 gives none: the cartridge is 0x8000 bytes of 0x00 with type code 0x01
(log entry 2), and RAM holds 0x00 (log entry 1). -/
def Params.default : Params where
  rom := []
  romLen := 0x8000
  cartTypeCode := 0x01
  mapperForType := [0x01, 0x02, 0x03]
  unimplementedOpcodes := []
  haltMode := .stall
  romReadMode := .flat
  romBankMask := 0x03
  cartRamMode := .stub
  wramInit := []
  hramInit := []
  cartRamInit := []
  resetA := 0x00
  cyclesPrimary := defaultCyclesPrimary
  cyclesCbInner := defaultCyclesCbInner

/-- FREE VALUE: what the n-th draw of the serial port 0xFF01 answers, `serial_read` (20_memory.md R69; log entry 3).
It has no body: no proof can know a value of it, and a claim holds whatever it is. -/
opaque Config.serialRead : Nat → Byte

end Sys2Proof
end

