-- ==== Sys2Proof/Machine/State.lean ====
section
/-! DEFINITION. The machine's state as plain data (spec/10_state.md), the reasons a step can stop, and the
state right after construction (10_state.md R42, 70_reset_and_hazards.md R350). -/

namespace Sys2Proof.Machine

/-- The two banking modes of the mapper (10_state.md R39). -/
inductive MapperMode where
  | rom16M_ram8K
  | rom4M_ram32K
deriving DecidableEq, Repr

/-- A fault record (60_exceptions.md R320 to R324). -/
inductive FaultRecord where
  /-- R321: the primary opcode byte `byte` at `addr` is ILLEGAL or in `unimplemented_opcodes`. -/
  | decodeFault (addr : Word) (byte : Byte)
  /-- R322: a write of `value` to `addr` in 0x0000-0x1FFF or 0x4000-0x5FFF. -/
  | mapperConfigFault (addr : Word) (value : Byte)
  /-- R323: a read of the ROM address `addr` whose image index is at least ROM_LEN. -/
  | romRangeFault (addr : Word)
  /-- R324: construction with a cartridge-type code no mapper is known for. -/
  | cartridgeTypeFault (code : Byte)
deriving DecidableEq, Repr

/-- `status`: running, or faulted with its record (10_state.md R34). -/
inductive Status where
  | running
  | faulted (rec : FaultRecord)
deriving DecidableEq, Repr

/-- The thirteen regions of the address space, in the order of the table of 20_memory.md R61. -/
inductive Region where
  | ie | hram | unusableUpper | serial | io | unusableLower | oam
  | echo | wram | cartRam | vram | romBank | romFixed
deriving DecidableEq, Repr

/-- The machine's state: every row of the table of 10_state.md R42, the parameters of 00_scope.md R8, which
no step changes, and one field of the model's own (`draws`). -/
structure State where
  /-- The accumulator A (R20). -/
  a : Byte
  /-- The flag register F: bit 7 Z, bit 6 N, bit 5 H, bit 4 C; the low nibble reads 0 (R21). -/
  f : Byte
  b : Byte
  c : Byte
  d : Byte
  e : Byte
  h : Byte
  l : Byte
  /-- The stack pointer (R24). -/
  sp : Word
  /-- The program counter (R25). -/
  pc : Word
  /-- Interrupt master enable (R32). -/
  ime : Bool
  /-- Set by HALT and STOP under `halt_mode = stall` (R33). -/
  halted : Bool
  /-- Running or faulted (R34). -/
  status : Status
  /-- Work RAM, indices 0 to 0x1FFF (R35). -/
  wram : Memory
  /-- High RAM, indices 0 to 127, of which 127 is unreachable (R36). -/
  hram : Memory
  /-- The interrupt-enable byte at 0xFFFF (R37). -/
  ie : Byte
  /-- `mapper.mode` (R39). -/
  mapperMode : MapperMode
  /-- `mapper.rom_bank`, never 0 (R39). -/
  romBank : Byte
  /-- Cartridge RAM, indices 0 to 0x1FFF, in use only under `cart_ram_mode = backed(8192)` (R40). -/
  cartRam : Memory
  /-- The serial line buffer (R41). -/
  serialLine : List Byte
  /-- The completed serial lines, oldest first (R41). -/
  serialOut : List (List Byte)
  /-- The parameters and the ROM image (R38, 00_scope.md R8): fixed for a run. -/
  params : Params
  /-- THE MODEL'S OWN: how many draws of 0xFF01 have been made; it indexes the free value
  `Config.serialRead` (20_memory.md R69; log entry 3) and nothing else reads it. -/
  draws : Nat
deriving DecidableEq, Repr

/-- Why a step answers no next state. -/
inductive Fault where
  /-- Raised by `step` alone, on a state whose `status` is already faulted: the faulted state has no next
  state (10_state.md R34, 60_exceptions.md R320). SAFE: the spec itself ends the run there. -/
  | stopped (rec : FaultRecord)
deriving DecidableEq, Repr

/-- Why an instruction has no meaning. -/
inductive Refusal where
  /-- Raised by an arm of `exec` whose instruction has no meaning yet. SAFE: nothing is claimed of it.
  No arm of this model raises it. -/
  | notModelled (mnemonic : String)
deriving DecidableEq, Repr

/-- The state construction leaves for parameters `p` (10_state.md R42, 70_reset_and_hazards.md R350 step 3). -/
def State.initial (p : Params) : State where
  a := p.resetA
  f := 0xB0
  b := 0x00
  c := 0x00
  d := 0x00
  e := 0x00
  h := 0x00
  l := 0x00
  sp := 0xFFFE
  pc := 0x0100
  ime := false
  halted := false
  status := .running
  wram := p.wramInit
  hram := p.hramInit
  ie := 0x00
  mapperMode := .rom16M_ram8K
  romBank := 0x01
  cartRam := p.cartRamInit
  serialLine := []
  serialOut := []
  params := p
  draws := 0

/-- The state right after reset under the default parameters (10_state.md R42). The cartridge and the RAM
contents, which the spec leaves to the loader or OPEN, are those of `Params.default` (log entries 1, 2). -/
def State.reset : State := State.initial Params.default

end Sys2Proof.Machine
end

