-- ==== Sys2Proof/Machine/Ops.lean ====
section
/-! DEFINITION. The named operations over memory and registers (spec/10_state.md, spec/20_memory.md), the stack
(41_load16_stack.md R173), and raising a fault (60_exceptions.md R320), each said once. -/

namespace Sys2Proof.Machine

/-! ### A part of a step that can raise a fault -/

/-- What a part of a step answers: a value and the state it leaves, or a fault record and the state at the
faulting access, with every effect listed before that access and none after it (60_exceptions.md R320). -/
inductive Access (α : Type) where
  | done (value : α) (s : State)
  | raised (rec : FaultRecord) (s : State)
deriving DecidableEq, Repr

/-- One part of a step after another: a fault ends the step (60_exceptions.md R320, R326). -/
def Access.andThen {α β : Type} (r : Access α) (k : α → State → Access β) : Access β :=
  match r with
  | .done v s => k v s
  | .raised f s => .raised f s

/-- TAKING A FAULT, the core's only exception: `status <- faulted(rec)`, everything else as the faulting access
left it (60_exceptions.md R320). There is no vector, no saved state and no return from it (R328). -/
def enterFault (f : FaultRecord) (s : State) : State := { s with status := .faulted f }

/-- What a meaning answers. -/
abbrev Result := Host.Outcome State Fault Refusal

/-- The end of Execute: the step's next state, faulted if a part of it raised a fault (30_encoding.md R100,
60_exceptions.md R320). -/
def finish (r : Access Unit) : Result :=
  match r with
  | .done _ s => .next s
  | .raised f s => .next (enterFault f s)

/-- The cause code of a fault record (60_exceptions.md R321 to R324). -/
def causeCode (f : FaultRecord) : Nat :=
  match f with
  | .decodeFault _ _ => 1
  | .mapperConfigFault _ _ => 2
  | .romRangeFault _ => 3
  | .cartridgeTypeFault _ => 4

/-! ### Bytes at indices, in the canonical form -/

/-- What an index that is not listed reads as (log entry 1; inside the ROM image, log entry 2). -/
def unlisted : Byte := 0x00

/-- The byte at index `i`. -/
def Memory.read : Memory → Nat → Byte
  | [], _ => unlisted
  | (k, v) :: rest, i => if k = i then v else Memory.read rest i

/-- `m` with byte `v` at index `i`, in the canonical form again: the entry goes where its index belongs, and
is left out when `v` is what an unlisted index reads as. -/
def Memory.write : Memory → Nat → Byte → Memory
  | [], i, v => if v = unlisted then [] else [(i, v)]
  | (k, w) :: rest, i, v =>
    if i < k then
      if v = unlisted then (k, w) :: rest else (i, v) :: (k, w) :: rest
    else if i = k then
      if v = unlisted then rest else (i, v) :: rest
    else (k, w) :: Memory.write rest i v

/-- The canonical form from index `lo` on: indices strictly rising, no entry equal to what an unlisted index
reads as. -/
def Memory.wfFrom (lo : Nat) : Memory → Bool
  | [] => true
  | (k, v) :: rest => decide (lo ≤ k) && decide (v ≠ unlisted) && Memory.wfFrom (k + 1) rest

/-- The canonical form of a memory. -/
def Memory.wf (m : Memory) : Bool := Memory.wfFrom 0 m

/-- Every listed index lies below `n`, the size of the array. -/
def Memory.below (n : Nat) (m : Memory) : Bool := m.all fun cell => decide (cell.1 < n)

/-! ### Registers -/

/-- `x[r]` (00_scope.md R9). -/
def getReg (r : Reg8) (s : State) : Byte :=
  match r with
  | .B => s.b
  | .C => s.c
  | .D => s.d
  | .E => s.e
  | .H => s.h
  | .L => s.l
  | .A => s.a

/-- `x[r] <- v`: stored without checking (10_state.md R23). -/
def setReg (r : Reg8) (v : Byte) (s : State) : State :=
  match r with
  | .B => { s with b := v }
  | .C => { s with c := v }
  | .D => { s with d := v }
  | .E => { s with e := v }
  | .H => { s with h := v }
  | .L => { s with l := v }
  | .A => { s with a := v }

/-- Register F as it is read: its low nibble reads 0 (10_state.md R21). -/
def getF (s : State) : Byte := s.f &&& 0xF0

/-- `F <- v` stores `v & 0xF0` (10_state.md R21). -/
def setF (v : Byte) (s : State) : State := { s with f := v &&& 0xF0 }

/-- `x[rr]`: a pair is read as `hi:lo` (10_state.md R22). -/
def getPair (rr : Reg16) (s : State) : Word :=
  match rr with
  | .AF => wordOfBytes s.a (getF s)
  | .BC => wordOfBytes s.b s.c
  | .DE => wordOfBytes s.d s.e
  | .HL => wordOfBytes s.h s.l
  | .SP => s.sp

/-- `x[rr] <- v`: both halves at once; AF masks its low half by R21 (10_state.md R22). -/
def setPair (rr : Reg16) (v : Word) (s : State) : State :=
  match rr with
  | .AF => setF (lowByte v) { s with a := highByte v }
  | .BC => { s with b := highByte v, c := lowByte v }
  | .DE => { s with d := highByte v, e := lowByte v }
  | .HL => { s with h := highByte v, l := lowByte v }
  | .SP => { s with sp := v }

/-! ### The address space -/

/-- The rows of the table of 20_memory.md R61 for 0xFF00 to 0xFFFF, from top to bottom; the last, the I/O block, is
what is left there. -/
def regionHigh (addr : Word) : Region :=
  if addr.toNat = 0xFFFF then .ie
  else if 0xFF80 ≤ addr.toNat ∧ addr.toNat ≤ 0xFFFE then .hram
  else if 0xFF4C ≤ addr.toNat ∧ addr.toNat ≤ 0xFF7F then .unusableUpper
  else if addr.toNat = 0xFF01 then .serial
  else .io

/-- The rows of the table of 20_memory.md R61 below 0xFF00, from top to bottom; the last, fixed ROM bank 0, is what
is left. -/
def regionLow (addr : Word) : Region :=
  if 0xFEA0 ≤ addr.toNat ∧ addr.toNat ≤ 0xFEFF then .unusableLower
  else if 0xFE00 ≤ addr.toNat ∧ addr.toNat ≤ 0xFE9F then .oam
  else if 0xE000 ≤ addr.toNat ∧ addr.toNat ≤ 0xFDFF then .echo
  else if 0xC000 ≤ addr.toNat ∧ addr.toNat ≤ 0xDFFF then .wram
  else if 0xA000 ≤ addr.toNat ∧ addr.toNat ≤ 0xBFFF then .cartRam
  else if 0x8000 ≤ addr.toNat ∧ addr.toNat ≤ 0x9FFF then .vram
  else if 0x4000 ≤ addr.toNat ∧ addr.toNat ≤ 0x7FFF then .romBank
  else .romFixed

/-- `Region(addr)`: the first row of the table of 20_memory.md R61 that holds the address, both ends of every range
inclusive (90_conflicts.md C1). -/
def region (addr : Word) : Region :=
  if 0xFF00 ≤ addr.toNat then regionHigh addr else regionLow addr

/-- The image index of a ROM address (20_memory.md R63 and R77). -/
def romIndex (addr : Word) (s : State) : Nat :=
  match region addr with
  | .romBank =>
    match s.params.romReadMode with
    | .flat => addr.toNat
    | .banked => s.romBank.toNat * 0x4000 + (addr.toNat - 0x4000)
  | _ => addr.toNat

/-- A read of `rom_image`: RomRangeFault at an index at or past ROM_LEN (20_memory.md R63, R77). -/
def romRead (addr : Word) (s : State) : Except FaultRecord Byte :=
  if romIndex addr s < s.params.romLen then .ok (Memory.read s.params.rom (romIndex addr s))
  else .error (.romRangeFault addr)

/-- The value a read of `addr` gives, or the fault it raises (20_memory.md R62 to R73, R77). A read of the
serial port is a draw (R69): the free value of the next draw. -/
def readValue (addr : Word) (s : State) : Except FaultRecord Byte :=
  match region addr with
  | .ie => .ok s.ie
  | .hram => .ok (Memory.read s.hram (addr.toNat - 0xFF80))
  | .unusableUpper => .ok 0x00
  | .serial => .ok (Config.serialRead s.draws)
  | .io => .ok 0x00
  | .unusableLower => .ok 0x00
  | .oam => .ok 0x00
  | .echo => .ok (Memory.read s.wram (addr.toNat - 0xE000))
  | .wram => .ok (Memory.read s.wram (addr.toNat - 0xC000))
  | .cartRam =>
    match s.params.cartRamMode with
    | .stub => .ok 0x00
    | .backed8K => .ok (Memory.read s.cartRam (addr.toNat - 0xA000))
  | .vram => .ok 0x00
  | .romBank => romRead addr s
  | .romFixed => romRead addr s

/-- A read changes no state (20_memory.md R82); the model's own draw counter moves on when the serial port was
read, so that the next draw is a fresh free value (R69; log entry 3). -/
def afterRead (addr : Word) (s : State) : State :=
  if region addr = .serial then { s with draws := s.draws + 1 } else s

/-- `MemRead(addr, 1)` (20_memory.md R62). -/
def readByte (addr : Word) (s : State) : Access Byte :=
  match readValue addr s with
  | .ok v => .done v (afterRead addr s)
  | .error f => .raised f s

/-- A write of `v` to the serial port (20_memory.md R68). -/
def serialPut (v : Byte) (s : State) : State :=
  if v = 0x0A then { s with serialOut := s.serialOut ++ [s.serialLine], serialLine := [] }
  else { s with serialLine := s.serialLine ++ [v] }

/-- The bank a write of `v` selects: masked, and then 0 becomes 1 (20_memory.md R74). -/
def selectBank (mask v : Byte) : Byte :=
  if v &&& mask = 0x00 then 0x01 else v &&& mask

/-- The mode a write of `v` selects: bit 0 alone decides (20_memory.md R75). -/
def selectMode (v : Byte) : MapperMode :=
  if v.getLsbD 0 = false then .rom16M_ram8K else .rom4M_ram32K

/-- `MapperWrite(addr, v)` for `addr` in 0x0000 to 0x7FFF (20_memory.md R76). -/
def mapperWrite (addr : Word) (v : Byte) (s : State) : Access Unit :=
  if 0x2000 ≤ addr.toNat ∧ addr.toNat ≤ 0x3FFF then
    .done () { s with romBank := selectBank s.params.romBankMask v }
  else if 0x6000 ≤ addr.toNat ∧ addr.toNat ≤ 0x7FFF then
    .done () { s with mapperMode := selectMode v }
  else .raised (.mapperConfigFault addr v) s

/-- `MemWrite(addr, 1, v)` (20_memory.md R62 to R76). -/
def writeByte (addr : Word) (v : Byte) (s : State) : Access Unit :=
  match region addr with
  | .ie => .done () { s with ie := v }
  | .hram => .done () { s with hram := Memory.write s.hram (addr.toNat - 0xFF80) v }
  | .unusableUpper => .done () s
  | .serial => .done () (serialPut v s)
  | .io => .done () s
  | .unusableLower => .done () s
  | .oam => .done () s
  | .echo => .done () { s with wram := Memory.write s.wram (addr.toNat - 0xE000) v }
  | .wram => .done () { s with wram := Memory.write s.wram (addr.toNat - 0xC000) v }
  | .cartRam =>
    match s.params.cartRamMode with
    | .stub => .done () s
    | .backed8K => .done () { s with cartRam := Memory.write s.cartRam (addr.toNat - 0xA000) v }
  | .vram => .done () s
  | .romBank => mapperWrite addr v s
  | .romFixed => mapperWrite addr v s

/-- `MemRead(addr, 2)`: the byte at `addr` first, then the byte at `addr +16 1`; little-endian (20_memory.md
R78). -/
def readWord (addr : Word) (s : State) : Access Word :=
  (readByte addr s).andThen fun lo s1 =>
    (readByte (addr + 1) s1).andThen fun hi s2 => .done (wordOfBytes hi lo) s2

/-- `MemWrite(addr, 2, v)`: the low byte at `addr` first, then the high byte at `addr +16 1`; a fault on the
first leaves the second undone (20_memory.md R79). -/
def writeWord (addr : Word) (v : Word) (s : State) : Access Unit :=
  (writeByte addr (lowByte v) s).andThen fun _ s1 => writeByte (addr + 1) (highByte v) s1

/-! ### The stack -/

/-- `Push16(v)`: SP is decremented by 2 first, then the word is written at it (41_load16_stack.md R173). -/
def push16 (v : Word) (s : State) : Access Unit :=
  writeWord (s.sp - 2) v { s with sp := s.sp - 2 }

/-- `Pop16()`: the word at SP is read first, then SP is incremented by 2 (41_load16_stack.md R173). -/
def pop16 (s : State) : Access Word :=
  (readWord s.sp s).andThen fun v s1 => .done v { s1 with sp := s1.sp + 2 }

/-! ### Construction, and placing bytes from outside -/

/-- Constructing a core: the mapper variant of the cartridge-type code, or CartridgeTypeFault before any
instruction executes; then every piece of state at its reset value (70_reset_and_hazards.md R350,
60_exceptions.md R324). -/
def construct (p : Params) : Except FaultRecord State :=
  if p.cartTypeCode ∈ p.mapperForType then .ok (State.initial p)
  else .error (.cartridgeTypeFault p.cartTypeCode)

/-- Place byte `v` in the backing store that a read of `addr` reads: the loader's act on the ROM image (which
grows to hold the index), a direct set of a RAM byte or of IE elsewhere. A stub and the serial port have no
backing store. No instruction does this (log entry 9). -/
def place (addr : Word) (v : Byte) (s : State) : State :=
  match region addr with
  | .ie => { s with ie := v }
  | .hram => { s with hram := Memory.write s.hram (addr.toNat - 0xFF80) v }
  | .unusableUpper => s
  | .serial => s
  | .io => s
  | .unusableLower => s
  | .oam => s
  | .echo => { s with wram := Memory.write s.wram (addr.toNat - 0xE000) v }
  | .wram => { s with wram := Memory.write s.wram (addr.toNat - 0xC000) v }
  | .cartRam =>
    match s.params.cartRamMode with
    | .stub => s
    | .backed8K => { s with cartRam := Memory.write s.cartRam (addr.toNat - 0xA000) v }
  | .vram => s
  | .romBank => { s with params := { s.params with
      rom := Memory.write s.params.rom (romIndex addr s) v
      romLen := max s.params.romLen (romIndex addr s + 1) } }
  | .romFixed => { s with params := { s.params with
      rom := Memory.write s.params.rom (romIndex addr s) v
      romLen := max s.params.romLen (romIndex addr s + 1) } }

/-- Place bytes at consecutive addresses, wrapping as fetch does (30_encoding.md R111). -/
def placeBytes (addr : Word) (bytes : List Byte) (s : State) : State :=
  match bytes with
  | [] => s
  | v :: rest => placeBytes (addr + 1) rest (place addr v s)

end Sys2Proof.Machine
end

