-- ==== Sys2Proof/Machine/Flags.lean ====
section
/-! DEFINITION. The flags, and every flag computation of the spec (spec/10_state.md R26 to R30, 42_alu8.md R191 and
R204, 43_alu16.md R230 and R233, 45_rotate_shift_bit.md). -/

namespace Sys2Proof.Machine

/-! ### The four flags of F (10_state.md R21) -/

/-- F.Z, bit 7. -/
def flagZ (s : State) : Bool := s.f.getLsbD 7

/-- F.N, bit 6. -/
def flagN (s : State) : Bool := s.f.getLsbD 6

/-- F.H, bit 5. -/
def flagH (s : State) : Bool := s.f.getLsbD 5

/-- F.C, bit 4. -/
def flagC (s : State) : Bool := s.f.getLsbD 4

/-- F with the four flags given and its low nibble 0 (10_state.md R21). -/
def flagByte (z n h c : Bool) : Byte :=
  (if z then 0x80 else 0x00) ||| (if n then 0x40 else 0x00) ||| (if h then 0x20 else 0x00) |||
    (if c then 0x10 else 0x00)

/-- Write all four flags; an instruction that leaves a flag unchanged passes its old value (10_state.md R30). -/
def setFlags (z n h c : Bool) (s : State) : State := { s with f := flagByte z n h c }

/-- `Cond(cc)` on the flags as they stand (30_encoding.md R105, 44_control.md R250). -/
def condition (cc : Cond) (s : State) : Bool :=
  match cc with
  | .NZ => !flagZ s
  | .Z => flagZ s
  | .NC => !flagC s
  | .C => flagC s

/-! ### 8-bit addition and subtraction -/

/-- What `Add8`, `Sub8` and the low-byte additions answer (42_alu8.md R191). -/
structure Sum8 where
  res : Byte
  half : Bool
  carry : Bool
deriving DecidableEq, Repr

/-- A carry-in as a byte, 0 or 1. -/
def carryByte (c : Bool) : Byte := if c then 0x01 else 0x00

/-- `Add8(a, b, c)`: the result modulo 256; H and C by masked comparisons made as integers (42_alu8.md R191). -/
def add8 (a b : Byte) (c : Bool) : Sum8 where
  res := a + b + carryByte c
  half := decide ((a &&& 0x0F).toNat + (b &&& 0x0F).toNat + (carryByte c).toNat > 0x0F)
  carry := decide (a.toNat + b.toNat + (carryByte c).toNat > 0xFF)

/-- `Sub8(a, b, c)` (42_alu8.md R191). -/
def sub8 (a b : Byte) (c : Bool) : Sum8 where
  res := a - b - carryByte c
  half := decide ((a &&& 0x0F).toNat < (b &&& 0x0F).toNat + (carryByte c).toNat)
  carry := decide (a.toNat < b.toNat + (carryByte c).toNat)

/-- H of an 8-bit increment: the low nibble was 0x0F (42_alu8.md R200). -/
def incHalf (old : Byte) : Bool := decide (old &&& 0x0F = 0x0F)

/-- H of an 8-bit decrement: the low nibble was 0x00 (42_alu8.md R202). -/
def decHalf (old : Byte) : Bool := decide (old &&& 0x0F = 0x00)

/-! ### Decimal adjust (42_alu8.md R204) -/

/-- The low digit needs its correction of 0x06. -/
def daaLow (a : Byte) (n h : Bool) : Bool := h || (!n && decide ((a &&& 0x0F).toNat > 0x09))

/-- The high digit needs its correction of 0x60; this is also the carry DAA leaves. -/
def daaHigh (a : Byte) (n c : Bool) : Bool := c || (!n && decide (a.toNat > 0x99))

/-- `corr`. -/
def daaCorrection (a : Byte) (n h c : Bool) : Byte :=
  (if daaLow a n h then 0x06 else 0x00) ||| (if daaHigh a n c then 0x60 else 0x00)

/-- The adjusted accumulator. -/
def daaResult (a : Byte) (n h c : Bool) : Byte :=
  if n then a - daaCorrection a n h c else a + daaCorrection a n h c

/-! ### 16-bit additions -/

/-- H of `ADD HL,rr`: the carry out of bit 11 (43_alu16.md R230). -/
def half16 (a b : Word) : Bool := decide ((a &&& 0x0FFF).toNat + (b &&& 0x0FFF).toNat > 0x0FFF)

/-- C of `ADD HL,rr`: the carry out of bit 15 (43_alu16.md R230). -/
def carry16 (a b : Word) : Bool := decide (a.toNat + b.toNat > 0xFFFF)

/-- H of `ADD SP,e8` and `LD HL,SP+e8`: the carry out of bit 3 of the low-byte addition (43_alu16.md R233). -/
def spHalf (sp : Word) (e : Byte) : Bool := decide ((sp &&& 0x0F).toNat + (e &&& 0x0F).toNat > 0x0F)

/-- C of `ADD SP,e8` and `LD HL,SP+e8`: the carry out of bit 7 of the low-byte addition (43_alu16.md R233). -/
def spCarry (sp : Word) (e : Byte) : Bool := decide ((sp &&& 0xFF).toNat + e.toNat > 0xFF)

/-! ### Rotates, shifts and SWAP -/

/-- The byte a rotate, shift or SWAP makes of `v`, `cin` being F.C before it (45_rotate_shift_bit.md R276 to
R283; R270 to R273 are the first four laws on A). -/
def rotResult (k : RotOp) (v : Byte) (cin : Bool) : Byte :=
  match k with
  | .RLC => (v <<< 1) ||| carryByte (v.getLsbD 7)
  | .RRC => (v >>> 1) ||| (carryByte (v.getLsbD 0) <<< 7)
  | .RL => (v <<< 1) ||| carryByte cin
  | .RR => (v >>> 1) ||| (carryByte cin <<< 7)
  | .SLA => v <<< 1
  | .SRA => (v >>> 1) ||| (v &&& 0x80)
  | .SWAP => (v <<< 4) ||| (v >>> 4)
  | .SRL => v >>> 1

/-- C after a rotate, shift or SWAP: the bit shifted out; 0 for SWAP (45_rotate_shift_bit.md R276 to R283). -/
def rotCarry (k : RotOp) (v : Byte) : Bool :=
  match k with
  | .RLC => v.getLsbD 7
  | .RRC => v.getLsbD 0
  | .RL => v.getLsbD 7
  | .RR => v.getLsbD 0
  | .SLA => v.getLsbD 7
  | .SRA => v.getLsbD 0
  | .SWAP => false
  | .SRL => v.getLsbD 0

end Sys2Proof.Machine
end

