-- ==== Sys2Proof/Machine/Operands.lean ====
section
/-! DEFINITION. Every 8-bit operand form of the spec (spec/30_encoding.md R108, R109): where a byte is read from and
written to, and the address a form in memory has. -/

namespace Sys2Proof.Machine

/-- The address 0xFF00 + b of the high page (30_encoding.md R108, R109). -/
def highPage (b : Byte) : Word := 0xFF00 + b.setWidth 16

/-- `sext_16(e8)` (00_scope.md R9, 30_encoding.md R108). -/
def signExtend16 (e : Byte) : Word := e.signExtend 16

/-- An 8-bit location: a register, or a byte of memory by one of the addressing forms (30_encoding.md R109). -/
inductive Loc8 where
  /-- A register. -/
  | reg (r : Reg8)
  /-- Register indirect: (BC), (DE), (HL). -/
  | ind (rr : Reg16)
  /-- High page by an immediate: (a8). -/
  | high (b : Byte)
  /-- High page by register C: (C). -/
  | highC
  /-- Absolute: (a16). -/
  | abs (addr : Word)
deriving DecidableEq, Repr

/-- An 8-bit source: a location, or the immediate d8 (30_encoding.md R109). -/
inductive Src8 where
  | loc (l : Loc8)
  | imm (n : Byte)
deriving DecidableEq, Repr

/-- The location the field r selects: code 6 is (HL) (30_encoding.md R103). -/
def targetLoc (t : Target) : Loc8 :=
  match t with
  | .reg r => .reg r
  | .mHL => .ind .HL

/-- The memory address of a location, none for a register (30_encoding.md R109). -/
def locAddr (l : Loc8) (s : State) : Option Word :=
  match l with
  | .reg _ => none
  | .ind rr => some (getPair rr s)
  | .high b => some (highPage b)
  | .highC => some (highPage s.c)
  | .abs addr => some addr

/-- The value a location gives (30_encoding.md R109). -/
def readLoc (l : Loc8) (s : State) : Access Byte :=
  match l with
  | .reg r => .done (getReg r s) s
  | .ind rr => readByte (getPair rr s) s
  | .high b => readByte (highPage b) s
  | .highC => readByte (highPage s.c) s
  | .abs addr => readByte addr s

/-- Storing a value into a location (30_encoding.md R109). -/
def writeLoc (l : Loc8) (v : Byte) (s : State) : Access Unit :=
  match l with
  | .reg r => .done () (setReg r v s)
  | .ind rr => writeByte (getPair rr s) v s
  | .high b => writeByte (highPage b) v s
  | .highC => writeByte (highPage s.c) v s
  | .abs addr => writeByte addr v s

/-- The value a source gives (30_encoding.md R109). -/
def readSrc (src : Src8) (s : State) : Access Byte :=
  match src with
  | .loc l => readLoc l s
  | .imm n => .done n s

end Sys2Proof.Machine
end

