-- ==== Sys2Proof/Machine/Alu16.lean ====
section
/-! DEFINITION. 16-bit arithmetic (spec/43_alu16.md): the operations the family shares, then one meaning per instruction. PC already
holds `pc_next` when a meaning runs (30_encoding.md R100). -/

namespace Sys2Proof.Machine

/-- `ADD HL,rr`: Z kept, N = 0 (R230). -/
def addPairHL (rr : Reg16) (s : State) : Result :=
  .next (setPair .HL (getPair .HL s + getPair rr s)
    (setFlags (flagZ s) false (half16 (getPair .HL s) (getPair rr s))
      (carry16 (getPair .HL s) (getPair rr s)) s))

/-- `INC rr` and `DEC rr`: no flag changes (R231, R232). -/
def stepPair (rr : Reg16) (step : Word) (s : State) : Result := .next (setPair rr (getPair rr s + step) s)

/-- `ADD SP,e8` (R233). -/
def addSP (e : Byte) (s : State) : Result :=
  .next { setFlags false false (spHalf s.sp e) (spCarry s.sp e) s with sp := s.sp + signExtend16 e }

/-- `LD HL,SP+e8`: SP unchanged (R234). -/
def loadHLFromSP (e : Byte) (s : State) : Result :=
  .next (setPair .HL (s.sp + signExtend16 e) (setFlags false false (spHalf s.sp e) (spCarry s.sp e) s))

/-! ### The meanings -/

/-- 0x09: `ADD HL,BC` (43_alu16.md R230). -/
def exec_add_HL_BC (s : State) : Result :=
  addPairHL .BC s

/-- 0x19: `ADD HL,DE` (43_alu16.md R230). -/
def exec_add_HL_DE (s : State) : Result :=
  addPairHL .DE s

/-- 0x29: `ADD HL,HL` (43_alu16.md R230). -/
def exec_add_HL_HL (s : State) : Result :=
  addPairHL .HL s

/-- 0x39: `ADD HL,SP` (43_alu16.md R230). -/
def exec_add_HL_SP (s : State) : Result :=
  addPairHL .SP s

/-- 0x03: `INC BC` (43_alu16.md R231). -/
def exec_inc_BC (s : State) : Result :=
  stepPair .BC 1 s

/-- 0x13: `INC DE` (43_alu16.md R231). -/
def exec_inc_DE (s : State) : Result :=
  stepPair .DE 1 s

/-- 0x23: `INC HL` (43_alu16.md R231). -/
def exec_inc_HL (s : State) : Result :=
  stepPair .HL 1 s

/-- 0x33: `INC SP` (43_alu16.md R231). -/
def exec_inc_SP (s : State) : Result :=
  stepPair .SP 1 s

/-- 0x0B: `DEC BC` (43_alu16.md R232). -/
def exec_dec_BC (s : State) : Result :=
  stepPair .BC (-1) s

/-- 0x1B: `DEC DE` (43_alu16.md R232). -/
def exec_dec_DE (s : State) : Result :=
  stepPair .DE (-1) s

/-- 0x2B: `DEC HL` (43_alu16.md R232). -/
def exec_dec_HL (s : State) : Result :=
  stepPair .HL (-1) s

/-- 0x3B: `DEC SP` (43_alu16.md R232). -/
def exec_dec_SP (s : State) : Result :=
  stepPair .SP (-1) s

/-- 0xE8: `ADD SP,e8` (43_alu16.md R233). -/
def exec_add_SP_e8 (e8 : Byte) (s : State) : Result :=
  addSP e8 s

/-- 0xF8: `LD HL,SP+e8` (43_alu16.md R234). -/
def exec_ld_HL_SPe8 (e8 : Byte) (s : State) : Result :=
  loadHLFromSP e8 s

end Sys2Proof.Machine
end

