-- ==== Sys2Proof/Machine/Alu8.lean ====
section
/-! DEFINITION. 8-bit arithmetic and logic (spec/42_alu8.md): the operations the family shares, then one meaning per instruction. PC already
holds `pc_next` when a meaning runs (30_encoding.md R100). -/

namespace Sys2Proof.Machine

/-- One accumulator operation on the source value `v`: the result into A, except for CP, and the flags (R192 to
R199). -/
def accumulate (o : AluOp) (v : Byte) (s : State) : State :=
  match o with
  | .ADD =>
    let r := add8 s.a v false
    { s with a := r.res, f := flagByte (r.res == 0) false r.half r.carry }
  | .ADC =>
    let r := add8 s.a v (flagC s)
    { s with a := r.res, f := flagByte (r.res == 0) false r.half r.carry }
  | .SUB =>
    let r := sub8 s.a v false
    { s with a := r.res, f := flagByte (r.res == 0) true r.half r.carry }
  | .SBC =>
    let r := sub8 s.a v (flagC s)
    { s with a := r.res, f := flagByte (r.res == 0) true r.half r.carry }
  | .AND => { s with a := s.a &&& v, f := flagByte (s.a &&& v == 0) false true false }
  | .XOR => { s with a := s.a ^^^ v, f := flagByte (s.a ^^^ v == 0) false false false }
  | .OR => { s with a := s.a ||| v, f := flagByte (s.a ||| v == 0) false false false }
  | .CP =>
    let r := sub8 s.a v false
    { s with f := flagByte (r.res == 0) true r.half r.carry }

/-- An accumulator operation with its source operand (R190). -/
def aluA (o : AluOp) (src : Src8) (s : State) : Result :=
  finish ((readSrc src s).andThen fun v s1 => .done () (accumulate o v s1))

/-- `INC`: one read, one write, then the flags, C kept (R200, R201). -/
def inc8 (l : Loc8) (s : State) : Result :=
  finish ((readLoc l s).andThen fun old s1 =>
    (writeLoc l (old + 1) s1).andThen fun _ s2 =>
      .done () (setFlags (old + 1 == 0) false (incHalf old) (flagC s2) s2))

/-- `DEC`: one read, one write, then the flags, C kept (R202, R203). -/
def dec8 (l : Loc8) (s : State) : Result :=
  finish ((readLoc l s).andThen fun old s1 =>
    (writeLoc l (old - 1) s1).andThen fun _ s2 =>
      .done () (setFlags (old - 1 == 0) true (decHalf old) (flagC s2) s2))

/-- `DAA` (R204). -/
def decimalAdjust (s : State) : Result :=
  let res := daaResult s.a (flagN s) (flagH s) (flagC s)
  .next { s with a := res, f := flagByte (res == 0) (flagN s) false (daaHigh s.a (flagN s) (flagC s)) }

/-- `CPL` (R205). -/
def complementA (s : State) : Result :=
  .next { s with a := ~~~s.a, f := flagByte (flagZ s) true true (flagC s) }

/-! ### The meanings -/

/-- 0x80: `ADD A,B` (42_alu8.md R192). -/
def exec_add_A_B (s : State) : Result :=
  aluA .ADD (.loc (.reg .B)) s

/-- 0x81: `ADD A,C` (42_alu8.md R192). -/
def exec_add_A_C (s : State) : Result :=
  aluA .ADD (.loc (.reg .C)) s

/-- 0x82: `ADD A,D` (42_alu8.md R192). -/
def exec_add_A_D (s : State) : Result :=
  aluA .ADD (.loc (.reg .D)) s

/-- 0x83: `ADD A,E` (42_alu8.md R192). -/
def exec_add_A_E (s : State) : Result :=
  aluA .ADD (.loc (.reg .E)) s

/-- 0x84: `ADD A,H` (42_alu8.md R192). -/
def exec_add_A_H (s : State) : Result :=
  aluA .ADD (.loc (.reg .H)) s

/-- 0x85: `ADD A,L` (42_alu8.md R192). -/
def exec_add_A_L (s : State) : Result :=
  aluA .ADD (.loc (.reg .L)) s

/-- 0x86: `ADD A,(HL)` (42_alu8.md R192). -/
def exec_add_A_mHL (s : State) : Result :=
  aluA .ADD (.loc (.ind .HL)) s

/-- 0x87: `ADD A,A` (42_alu8.md R192). -/
def exec_add_A_A (s : State) : Result :=
  aluA .ADD (.loc (.reg .A)) s

/-- 0xC6: `ADD A,d8` (42_alu8.md R192). -/
def exec_add_A_d8 (d8 : Byte) (s : State) : Result :=
  aluA .ADD (.imm d8) s

/-- 0x88: `ADC A,B` (42_alu8.md R193). -/
def exec_adc_A_B (s : State) : Result :=
  aluA .ADC (.loc (.reg .B)) s

/-- 0x89: `ADC A,C` (42_alu8.md R193). -/
def exec_adc_A_C (s : State) : Result :=
  aluA .ADC (.loc (.reg .C)) s

/-- 0x8A: `ADC A,D` (42_alu8.md R193). -/
def exec_adc_A_D (s : State) : Result :=
  aluA .ADC (.loc (.reg .D)) s

/-- 0x8B: `ADC A,E` (42_alu8.md R193). -/
def exec_adc_A_E (s : State) : Result :=
  aluA .ADC (.loc (.reg .E)) s

/-- 0x8C: `ADC A,H` (42_alu8.md R193). -/
def exec_adc_A_H (s : State) : Result :=
  aluA .ADC (.loc (.reg .H)) s

/-- 0x8D: `ADC A,L` (42_alu8.md R193). -/
def exec_adc_A_L (s : State) : Result :=
  aluA .ADC (.loc (.reg .L)) s

/-- 0x8E: `ADC A,(HL)` (42_alu8.md R193). -/
def exec_adc_A_mHL (s : State) : Result :=
  aluA .ADC (.loc (.ind .HL)) s

/-- 0x8F: `ADC A,A` (42_alu8.md R193). -/
def exec_adc_A_A (s : State) : Result :=
  aluA .ADC (.loc (.reg .A)) s

/-- 0xCE: `ADC A,d8` (42_alu8.md R193). -/
def exec_adc_A_d8 (d8 : Byte) (s : State) : Result :=
  aluA .ADC (.imm d8) s

/-- 0x90: `SUB B` (42_alu8.md R194). -/
def exec_sub_B (s : State) : Result :=
  aluA .SUB (.loc (.reg .B)) s

/-- 0x91: `SUB C` (42_alu8.md R194). -/
def exec_sub_C (s : State) : Result :=
  aluA .SUB (.loc (.reg .C)) s

/-- 0x92: `SUB D` (42_alu8.md R194). -/
def exec_sub_D (s : State) : Result :=
  aluA .SUB (.loc (.reg .D)) s

/-- 0x93: `SUB E` (42_alu8.md R194). -/
def exec_sub_E (s : State) : Result :=
  aluA .SUB (.loc (.reg .E)) s

/-- 0x94: `SUB H` (42_alu8.md R194). -/
def exec_sub_H (s : State) : Result :=
  aluA .SUB (.loc (.reg .H)) s

/-- 0x95: `SUB L` (42_alu8.md R194). -/
def exec_sub_L (s : State) : Result :=
  aluA .SUB (.loc (.reg .L)) s

/-- 0x96: `SUB (HL)` (42_alu8.md R194). -/
def exec_sub_mHL (s : State) : Result :=
  aluA .SUB (.loc (.ind .HL)) s

/-- 0x97: `SUB A` (42_alu8.md R194). -/
def exec_sub_A (s : State) : Result :=
  aluA .SUB (.loc (.reg .A)) s

/-- 0xD6: `SUB d8` (42_alu8.md R194). -/
def exec_sub_d8 (d8 : Byte) (s : State) : Result :=
  aluA .SUB (.imm d8) s

/-- 0x98: `SBC A,B` (42_alu8.md R195). -/
def exec_sbc_A_B (s : State) : Result :=
  aluA .SBC (.loc (.reg .B)) s

/-- 0x99: `SBC A,C` (42_alu8.md R195). -/
def exec_sbc_A_C (s : State) : Result :=
  aluA .SBC (.loc (.reg .C)) s

/-- 0x9A: `SBC A,D` (42_alu8.md R195). -/
def exec_sbc_A_D (s : State) : Result :=
  aluA .SBC (.loc (.reg .D)) s

/-- 0x9B: `SBC A,E` (42_alu8.md R195). -/
def exec_sbc_A_E (s : State) : Result :=
  aluA .SBC (.loc (.reg .E)) s

/-- 0x9C: `SBC A,H` (42_alu8.md R195). -/
def exec_sbc_A_H (s : State) : Result :=
  aluA .SBC (.loc (.reg .H)) s

/-- 0x9D: `SBC A,L` (42_alu8.md R195). -/
def exec_sbc_A_L (s : State) : Result :=
  aluA .SBC (.loc (.reg .L)) s

/-- 0x9E: `SBC A,(HL)` (42_alu8.md R195). -/
def exec_sbc_A_mHL (s : State) : Result :=
  aluA .SBC (.loc (.ind .HL)) s

/-- 0x9F: `SBC A,A` (42_alu8.md R195). -/
def exec_sbc_A_A (s : State) : Result :=
  aluA .SBC (.loc (.reg .A)) s

/-- 0xDE: `SBC A,d8` (42_alu8.md R195). -/
def exec_sbc_A_d8 (d8 : Byte) (s : State) : Result :=
  aluA .SBC (.imm d8) s

/-- 0xA0: `AND B` (42_alu8.md R196). -/
def exec_and_B (s : State) : Result :=
  aluA .AND (.loc (.reg .B)) s

/-- 0xA1: `AND C` (42_alu8.md R196). -/
def exec_and_C (s : State) : Result :=
  aluA .AND (.loc (.reg .C)) s

/-- 0xA2: `AND D` (42_alu8.md R196). -/
def exec_and_D (s : State) : Result :=
  aluA .AND (.loc (.reg .D)) s

/-- 0xA3: `AND E` (42_alu8.md R196). -/
def exec_and_E (s : State) : Result :=
  aluA .AND (.loc (.reg .E)) s

/-- 0xA4: `AND H` (42_alu8.md R196). -/
def exec_and_H (s : State) : Result :=
  aluA .AND (.loc (.reg .H)) s

/-- 0xA5: `AND L` (42_alu8.md R196). -/
def exec_and_L (s : State) : Result :=
  aluA .AND (.loc (.reg .L)) s

/-- 0xA6: `AND (HL)` (42_alu8.md R196). -/
def exec_and_mHL (s : State) : Result :=
  aluA .AND (.loc (.ind .HL)) s

/-- 0xA7: `AND A` (42_alu8.md R196). -/
def exec_and_A (s : State) : Result :=
  aluA .AND (.loc (.reg .A)) s

/-- 0xE6: `AND d8` (42_alu8.md R196). -/
def exec_and_d8 (d8 : Byte) (s : State) : Result :=
  aluA .AND (.imm d8) s

/-- 0xA8: `XOR B` (42_alu8.md R197). -/
def exec_xor_B (s : State) : Result :=
  aluA .XOR (.loc (.reg .B)) s

/-- 0xA9: `XOR C` (42_alu8.md R197). -/
def exec_xor_C (s : State) : Result :=
  aluA .XOR (.loc (.reg .C)) s

/-- 0xAA: `XOR D` (42_alu8.md R197). -/
def exec_xor_D (s : State) : Result :=
  aluA .XOR (.loc (.reg .D)) s

/-- 0xAB: `XOR E` (42_alu8.md R197). -/
def exec_xor_E (s : State) : Result :=
  aluA .XOR (.loc (.reg .E)) s

/-- 0xAC: `XOR H` (42_alu8.md R197). -/
def exec_xor_H (s : State) : Result :=
  aluA .XOR (.loc (.reg .H)) s

/-- 0xAD: `XOR L` (42_alu8.md R197). -/
def exec_xor_L (s : State) : Result :=
  aluA .XOR (.loc (.reg .L)) s

/-- 0xAE: `XOR (HL)` (42_alu8.md R197). -/
def exec_xor_mHL (s : State) : Result :=
  aluA .XOR (.loc (.ind .HL)) s

/-- 0xAF: `XOR A` (42_alu8.md R197). -/
def exec_xor_A (s : State) : Result :=
  aluA .XOR (.loc (.reg .A)) s

/-- 0xEE: `XOR d8` (42_alu8.md R197). -/
def exec_xor_d8 (d8 : Byte) (s : State) : Result :=
  aluA .XOR (.imm d8) s

/-- 0xB0: `OR B` (42_alu8.md R198). -/
def exec_or_B (s : State) : Result :=
  aluA .OR (.loc (.reg .B)) s

/-- 0xB1: `OR C` (42_alu8.md R198). -/
def exec_or_C (s : State) : Result :=
  aluA .OR (.loc (.reg .C)) s

/-- 0xB2: `OR D` (42_alu8.md R198). -/
def exec_or_D (s : State) : Result :=
  aluA .OR (.loc (.reg .D)) s

/-- 0xB3: `OR E` (42_alu8.md R198). -/
def exec_or_E (s : State) : Result :=
  aluA .OR (.loc (.reg .E)) s

/-- 0xB4: `OR H` (42_alu8.md R198). -/
def exec_or_H (s : State) : Result :=
  aluA .OR (.loc (.reg .H)) s

/-- 0xB5: `OR L` (42_alu8.md R198). -/
def exec_or_L (s : State) : Result :=
  aluA .OR (.loc (.reg .L)) s

/-- 0xB6: `OR (HL)` (42_alu8.md R198). -/
def exec_or_mHL (s : State) : Result :=
  aluA .OR (.loc (.ind .HL)) s

/-- 0xB7: `OR A` (42_alu8.md R198). -/
def exec_or_A (s : State) : Result :=
  aluA .OR (.loc (.reg .A)) s

/-- 0xF6: `OR d8` (42_alu8.md R198). -/
def exec_or_d8 (d8 : Byte) (s : State) : Result :=
  aluA .OR (.imm d8) s

/-- 0xB8: `CP B` (42_alu8.md R199). -/
def exec_cp_B (s : State) : Result :=
  aluA .CP (.loc (.reg .B)) s

/-- 0xB9: `CP C` (42_alu8.md R199). -/
def exec_cp_C (s : State) : Result :=
  aluA .CP (.loc (.reg .C)) s

/-- 0xBA: `CP D` (42_alu8.md R199). -/
def exec_cp_D (s : State) : Result :=
  aluA .CP (.loc (.reg .D)) s

/-- 0xBB: `CP E` (42_alu8.md R199). -/
def exec_cp_E (s : State) : Result :=
  aluA .CP (.loc (.reg .E)) s

/-- 0xBC: `CP H` (42_alu8.md R199). -/
def exec_cp_H (s : State) : Result :=
  aluA .CP (.loc (.reg .H)) s

/-- 0xBD: `CP L` (42_alu8.md R199). -/
def exec_cp_L (s : State) : Result :=
  aluA .CP (.loc (.reg .L)) s

/-- 0xBE: `CP (HL)` (42_alu8.md R199). -/
def exec_cp_mHL (s : State) : Result :=
  aluA .CP (.loc (.ind .HL)) s

/-- 0xBF: `CP A` (42_alu8.md R199). -/
def exec_cp_A (s : State) : Result :=
  aluA .CP (.loc (.reg .A)) s

/-- 0xFE: `CP d8` (42_alu8.md R199). -/
def exec_cp_d8 (d8 : Byte) (s : State) : Result :=
  aluA .CP (.imm d8) s

/-- 0x04: `INC B` (42_alu8.md R200). -/
def exec_inc_B (s : State) : Result :=
  inc8 (.reg .B) s

/-- 0x0C: `INC C` (42_alu8.md R200). -/
def exec_inc_C (s : State) : Result :=
  inc8 (.reg .C) s

/-- 0x14: `INC D` (42_alu8.md R200). -/
def exec_inc_D (s : State) : Result :=
  inc8 (.reg .D) s

/-- 0x1C: `INC E` (42_alu8.md R200). -/
def exec_inc_E (s : State) : Result :=
  inc8 (.reg .E) s

/-- 0x24: `INC H` (42_alu8.md R200). -/
def exec_inc_H (s : State) : Result :=
  inc8 (.reg .H) s

/-- 0x2C: `INC L` (42_alu8.md R200). -/
def exec_inc_L (s : State) : Result :=
  inc8 (.reg .L) s

/-- 0x3C: `INC A` (42_alu8.md R200). -/
def exec_inc_A (s : State) : Result :=
  inc8 (.reg .A) s

/-- 0x34: `INC (HL)` (42_alu8.md R201). -/
def exec_inc_mHL (s : State) : Result :=
  inc8 (.ind .HL) s

/-- 0x05: `DEC B` (42_alu8.md R202). -/
def exec_dec_B (s : State) : Result :=
  dec8 (.reg .B) s

/-- 0x0D: `DEC C` (42_alu8.md R202). -/
def exec_dec_C (s : State) : Result :=
  dec8 (.reg .C) s

/-- 0x15: `DEC D` (42_alu8.md R202). -/
def exec_dec_D (s : State) : Result :=
  dec8 (.reg .D) s

/-- 0x1D: `DEC E` (42_alu8.md R202). -/
def exec_dec_E (s : State) : Result :=
  dec8 (.reg .E) s

/-- 0x25: `DEC H` (42_alu8.md R202). -/
def exec_dec_H (s : State) : Result :=
  dec8 (.reg .H) s

/-- 0x2D: `DEC L` (42_alu8.md R202). -/
def exec_dec_L (s : State) : Result :=
  dec8 (.reg .L) s

/-- 0x3D: `DEC A` (42_alu8.md R202). -/
def exec_dec_A (s : State) : Result :=
  dec8 (.reg .A) s

/-- 0x35: `DEC (HL)` (42_alu8.md R203). -/
def exec_dec_mHL (s : State) : Result :=
  dec8 (.ind .HL) s

/-- 0x27: `DAA` (42_alu8.md R204). -/
def exec_daa (s : State) : Result :=
  decimalAdjust s

/-- 0x2F: `CPL` (42_alu8.md R205). -/
def exec_cpl (s : State) : Result :=
  complementA s

end Sys2Proof.Machine
end

