-- ==== Sys2Proof/Machine/Control.lean ====
section
/-! DEFINITION. Control transfer (spec/44_control.md): the operations the family shares, then one meaning per instruction. PC already
holds `pc_next` when a meaning runs (30_encoding.md R100). -/

namespace Sys2Proof.Machine

/-- `pc <- target`, any u16 (R250, R251). -/
def jump (target : Word) (s : State) : Result := .next { s with pc := target }

/-- A jump if the condition holds, else nothing (R250, R252). -/
def jumpIf (cc : Cond) (target : Word) (s : State) : Result :=
  if condition cc s then jump target s else .next s

/-- `JP HL`: no memory is read (R253). -/
def jumpHL (s : State) : Result := jump (getPair .HL s) s

/-- `JR e8`, relative to `pc_next` (R254). -/
def jumpRel (e : Byte) (s : State) : Result := jump (s.pc + signExtend16 e) s

/-- `JR cc,e8` (R250, R255). -/
def jumpRelIf (cc : Cond) (e : Byte) (s : State) : Result :=
  if condition cc s then jumpRel e s else .next s

/-- `Push16(pc_next); pc <- target` (R256, R261). -/
def call (target : Word) (s : State) : Result :=
  finish ((push16 s.pc s).andThen fun _ s1 => .done () { s1 with pc := target })

/-- `CALL cc,a16`; not taken, the stack is untouched (R250, R257). -/
def callIf (cc : Cond) (target : Word) (s : State) : Result :=
  if condition cc s then call target s else .next s

/-- `pc <- Pop16()` (R258). -/
def ret (s : State) : Result :=
  finish ((pop16 s).andThen fun v s1 => .done () { s1 with pc := v })

/-- `RET cc`; not taken, the stack is untouched (R250, R259). -/
def retIf (cc : Cond) (s : State) : Result :=
  if condition cc s then ret s else .next s

/-- `RETI`: `pc <- Pop16(); IME <- 1` (R260; no trap return, 60_exceptions.md R328). -/
def retEnable (s : State) : Result :=
  finish ((pop16 s).andThen fun v s1 => .done () { s1 with pc := v, ime := true })

/-- `RST n`: a call of the address n (R261). -/
def restart (n : Byte) (s : State) : Result := call (n.setWidth 16) s

/-! ### The meanings -/

/-- 0xC3: `JP a16` (44_control.md R251). -/
def exec_jp_a16 (a16 : Word) (s : State) : Result :=
  jump a16 s

/-- 0xC2: `JP NZ,a16` (44_control.md R252). -/
def exec_jp_NZ_a16 (a16 : Word) (s : State) : Result :=
  jumpIf .NZ a16 s

/-- 0xCA: `JP Z,a16` (44_control.md R252). -/
def exec_jp_Z_a16 (a16 : Word) (s : State) : Result :=
  jumpIf .Z a16 s

/-- 0xD2: `JP NC,a16` (44_control.md R252). -/
def exec_jp_NC_a16 (a16 : Word) (s : State) : Result :=
  jumpIf .NC a16 s

/-- 0xDA: `JP C,a16` (44_control.md R252). -/
def exec_jp_C_a16 (a16 : Word) (s : State) : Result :=
  jumpIf .C a16 s

/-- 0xE9: `JP HL` (44_control.md R253). -/
def exec_jp_HL (s : State) : Result :=
  jumpHL s

/-- 0x18: `JR e8` (44_control.md R254). -/
def exec_jr_e8 (e8 : Byte) (s : State) : Result :=
  jumpRel e8 s

/-- 0x20: `JR NZ,e8` (44_control.md R255). -/
def exec_jr_NZ_e8 (e8 : Byte) (s : State) : Result :=
  jumpRelIf .NZ e8 s

/-- 0x28: `JR Z,e8` (44_control.md R255). -/
def exec_jr_Z_e8 (e8 : Byte) (s : State) : Result :=
  jumpRelIf .Z e8 s

/-- 0x30: `JR NC,e8` (44_control.md R255). -/
def exec_jr_NC_e8 (e8 : Byte) (s : State) : Result :=
  jumpRelIf .NC e8 s

/-- 0x38: `JR C,e8` (44_control.md R255). -/
def exec_jr_C_e8 (e8 : Byte) (s : State) : Result :=
  jumpRelIf .C e8 s

/-- 0xCD: `CALL a16` (44_control.md R256). -/
def exec_call_a16 (a16 : Word) (s : State) : Result :=
  call a16 s

/-- 0xC4: `CALL NZ,a16` (44_control.md R257). -/
def exec_call_NZ_a16 (a16 : Word) (s : State) : Result :=
  callIf .NZ a16 s

/-- 0xCC: `CALL Z,a16` (44_control.md R257). -/
def exec_call_Z_a16 (a16 : Word) (s : State) : Result :=
  callIf .Z a16 s

/-- 0xD4: `CALL NC,a16` (44_control.md R257). -/
def exec_call_NC_a16 (a16 : Word) (s : State) : Result :=
  callIf .NC a16 s

/-- 0xDC: `CALL C,a16` (44_control.md R257). -/
def exec_call_C_a16 (a16 : Word) (s : State) : Result :=
  callIf .C a16 s

/-- 0xC9: `RET` (44_control.md R258). -/
def exec_ret (s : State) : Result :=
  ret s

/-- 0xC0: `RET NZ` (44_control.md R259). -/
def exec_ret_NZ (s : State) : Result :=
  retIf .NZ s

/-- 0xC8: `RET Z` (44_control.md R259). -/
def exec_ret_Z (s : State) : Result :=
  retIf .Z s

/-- 0xD0: `RET NC` (44_control.md R259). -/
def exec_ret_NC (s : State) : Result :=
  retIf .NC s

/-- 0xD8: `RET C` (44_control.md R259). -/
def exec_ret_C (s : State) : Result :=
  retIf .C s

/-- 0xD9: `RETI` (44_control.md R260). -/
def exec_reti (s : State) : Result :=
  retEnable s

/-- 0xC7: `RST 0x00` (44_control.md R261). -/
def exec_rst_00 (s : State) : Result :=
  restart 0x00 s

/-- 0xCF: `RST 0x08` (44_control.md R261). -/
def exec_rst_08 (s : State) : Result :=
  restart 0x08 s

/-- 0xD7: `RST 0x10` (44_control.md R261). -/
def exec_rst_10 (s : State) : Result :=
  restart 0x10 s

/-- 0xDF: `RST 0x18` (44_control.md R261). -/
def exec_rst_18 (s : State) : Result :=
  restart 0x18 s

/-- 0xE7: `RST 0x20` (44_control.md R261). -/
def exec_rst_20 (s : State) : Result :=
  restart 0x20 s

/-- 0xEF: `RST 0x28` (44_control.md R261). -/
def exec_rst_28 (s : State) : Result :=
  restart 0x28 s

/-- 0xF7: `RST 0x30` (44_control.md R261). -/
def exec_rst_30 (s : State) : Result :=
  restart 0x30 s

/-- 0xFF: `RST 0x38` (44_control.md R261). -/
def exec_rst_38 (s : State) : Result :=
  restart 0x38 s

end Sys2Proof.Machine
end

