-- ==== Sys2Proof/Machine/Load16.lean ====
section
/-! DEFINITION. 16-bit loads and the stack (spec/41_load16_stack.md): the operations the family shares, then one meaning per instruction. PC already
holds `pc_next` when a meaning runs (30_encoding.md R100). -/

namespace Sys2Proof.Machine

/-- `LD rr,d16` (R170). -/
def loadPair (rr : Reg16) (v : Word) (s : State) : Result := .next (setPair rr v s)

/-- `LD (a16),SP`: the low byte at a16 first, then the high byte (R171). -/
def storeSP (addr : Word) (s : State) : Result := finish (writeWord addr s.sp s)

/-- `LD SP,HL` (R172). -/
def loadSPFromHL (s : State) : Result := .next { s with sp := getPair .HL s }

/-- `PUSH rr` (R173, R174). -/
def pushPair (rr : Reg16) (s : State) : Result := finish (push16 (getPair rr s) s)

/-- `POP rr`; into AF the low byte is masked (R173, R175, R176). -/
def popPair (rr : Reg16) (s : State) : Result :=
  finish ((pop16 s).andThen fun v s1 => .done () (setPair rr v s1))

/-! ### The meanings -/

/-- 0x01: `LD BC,d16` (41_load16_stack.md R170). -/
def exec_ld_BC_d16 (d16 : Word) (s : State) : Result :=
  loadPair .BC d16 s

/-- 0x11: `LD DE,d16` (41_load16_stack.md R170). -/
def exec_ld_DE_d16 (d16 : Word) (s : State) : Result :=
  loadPair .DE d16 s

/-- 0x21: `LD HL,d16` (41_load16_stack.md R170). -/
def exec_ld_HL_d16 (d16 : Word) (s : State) : Result :=
  loadPair .HL d16 s

/-- 0x31: `LD SP,d16` (41_load16_stack.md R170). -/
def exec_ld_SP_d16 (d16 : Word) (s : State) : Result :=
  loadPair .SP d16 s

/-- 0x08: `LD (a16),SP` (41_load16_stack.md R171). -/
def exec_ld_ma16_SP (a16 : Word) (s : State) : Result :=
  storeSP a16 s

/-- 0xF9: `LD SP,HL` (41_load16_stack.md R172). -/
def exec_ld_SP_HL (s : State) : Result :=
  loadSPFromHL s

/-- 0xC5: `PUSH BC` (41_load16_stack.md R174). -/
def exec_push_BC (s : State) : Result :=
  pushPair .BC s

/-- 0xD5: `PUSH DE` (41_load16_stack.md R174). -/
def exec_push_DE (s : State) : Result :=
  pushPair .DE s

/-- 0xE5: `PUSH HL` (41_load16_stack.md R174). -/
def exec_push_HL (s : State) : Result :=
  pushPair .HL s

/-- 0xF5: `PUSH AF` (41_load16_stack.md R174). -/
def exec_push_AF (s : State) : Result :=
  pushPair .AF s

/-- 0xC1: `POP BC` (41_load16_stack.md R175). -/
def exec_pop_BC (s : State) : Result :=
  popPair .BC s

/-- 0xD1: `POP DE` (41_load16_stack.md R175). -/
def exec_pop_DE (s : State) : Result :=
  popPair .DE s

/-- 0xE1: `POP HL` (41_load16_stack.md R175). -/
def exec_pop_HL (s : State) : Result :=
  popPair .HL s

/-- 0xF1: `POP AF` (41_load16_stack.md R176). -/
def exec_pop_AF (s : State) : Result :=
  popPair .AF s

end Sys2Proof.Machine
end

