-- ==== Sys2Proof/Machine/Load8.lean ====
section
/-! DEFINITION. 8-bit loads and stores (spec/40_load8.md): the operations the family shares, then one meaning per instruction. PC already
holds `pc_next` when a meaning runs (30_encoding.md R100). -/

namespace Sys2Proof.Machine

/-- `LD dst,src`: one read, then one write; no flag changes (R140 to R148, R153 to R158). -/
def load8 (dst : Loc8) (src : Src8) (s : State) : Result :=
  finish ((readSrc src s).andThen fun v s1 => writeLoc dst v s1)

/-- Store A at HL, then step HL; a fault of the store leaves HL as it was (R149, R151). -/
def storeStepHL (step : Word) (s : State) : Result :=
  finish ((writeByte (getPair .HL s) s.a s).andThen fun _ s1 =>
    .done () (setPair .HL (getPair .HL s1 + step) s1))

/-- Load A from HL, then step HL (R150, R152). -/
def loadStepHL (step : Word) (s : State) : Result :=
  finish ((readByte (getPair .HL s) s).andThen fun v s1 =>
    .done () (setPair .HL (getPair .HL s1 + step) { s1 with a := v }))

/-! ### The meanings -/

/-- 0x40: `LD B,B` (40_load8.md R140). -/
def exec_ld_B_B (s : State) : Result :=
  load8 (.reg .B) (.loc (.reg .B)) s

/-- 0x41: `LD B,C` (40_load8.md R140). -/
def exec_ld_B_C (s : State) : Result :=
  load8 (.reg .B) (.loc (.reg .C)) s

/-- 0x42: `LD B,D` (40_load8.md R140). -/
def exec_ld_B_D (s : State) : Result :=
  load8 (.reg .B) (.loc (.reg .D)) s

/-- 0x43: `LD B,E` (40_load8.md R140). -/
def exec_ld_B_E (s : State) : Result :=
  load8 (.reg .B) (.loc (.reg .E)) s

/-- 0x44: `LD B,H` (40_load8.md R140). -/
def exec_ld_B_H (s : State) : Result :=
  load8 (.reg .B) (.loc (.reg .H)) s

/-- 0x45: `LD B,L` (40_load8.md R140). -/
def exec_ld_B_L (s : State) : Result :=
  load8 (.reg .B) (.loc (.reg .L)) s

/-- 0x47: `LD B,A` (40_load8.md R140). -/
def exec_ld_B_A (s : State) : Result :=
  load8 (.reg .B) (.loc (.reg .A)) s

/-- 0x48: `LD C,B` (40_load8.md R140). -/
def exec_ld_C_B (s : State) : Result :=
  load8 (.reg .C) (.loc (.reg .B)) s

/-- 0x49: `LD C,C` (40_load8.md R140). -/
def exec_ld_C_C (s : State) : Result :=
  load8 (.reg .C) (.loc (.reg .C)) s

/-- 0x4A: `LD C,D` (40_load8.md R140). -/
def exec_ld_C_D (s : State) : Result :=
  load8 (.reg .C) (.loc (.reg .D)) s

/-- 0x4B: `LD C,E` (40_load8.md R140). -/
def exec_ld_C_E (s : State) : Result :=
  load8 (.reg .C) (.loc (.reg .E)) s

/-- 0x4C: `LD C,H` (40_load8.md R140). -/
def exec_ld_C_H (s : State) : Result :=
  load8 (.reg .C) (.loc (.reg .H)) s

/-- 0x4D: `LD C,L` (40_load8.md R140). -/
def exec_ld_C_L (s : State) : Result :=
  load8 (.reg .C) (.loc (.reg .L)) s

/-- 0x4F: `LD C,A` (40_load8.md R140). -/
def exec_ld_C_A (s : State) : Result :=
  load8 (.reg .C) (.loc (.reg .A)) s

/-- 0x50: `LD D,B` (40_load8.md R140). -/
def exec_ld_D_B (s : State) : Result :=
  load8 (.reg .D) (.loc (.reg .B)) s

/-- 0x51: `LD D,C` (40_load8.md R140). -/
def exec_ld_D_C (s : State) : Result :=
  load8 (.reg .D) (.loc (.reg .C)) s

/-- 0x52: `LD D,D` (40_load8.md R140). -/
def exec_ld_D_D (s : State) : Result :=
  load8 (.reg .D) (.loc (.reg .D)) s

/-- 0x53: `LD D,E` (40_load8.md R140). -/
def exec_ld_D_E (s : State) : Result :=
  load8 (.reg .D) (.loc (.reg .E)) s

/-- 0x54: `LD D,H` (40_load8.md R140). -/
def exec_ld_D_H (s : State) : Result :=
  load8 (.reg .D) (.loc (.reg .H)) s

/-- 0x55: `LD D,L` (40_load8.md R140). -/
def exec_ld_D_L (s : State) : Result :=
  load8 (.reg .D) (.loc (.reg .L)) s

/-- 0x57: `LD D,A` (40_load8.md R140). -/
def exec_ld_D_A (s : State) : Result :=
  load8 (.reg .D) (.loc (.reg .A)) s

/-- 0x58: `LD E,B` (40_load8.md R140). -/
def exec_ld_E_B (s : State) : Result :=
  load8 (.reg .E) (.loc (.reg .B)) s

/-- 0x59: `LD E,C` (40_load8.md R140). -/
def exec_ld_E_C (s : State) : Result :=
  load8 (.reg .E) (.loc (.reg .C)) s

/-- 0x5A: `LD E,D` (40_load8.md R140). -/
def exec_ld_E_D (s : State) : Result :=
  load8 (.reg .E) (.loc (.reg .D)) s

/-- 0x5B: `LD E,E` (40_load8.md R140). -/
def exec_ld_E_E (s : State) : Result :=
  load8 (.reg .E) (.loc (.reg .E)) s

/-- 0x5C: `LD E,H` (40_load8.md R140). -/
def exec_ld_E_H (s : State) : Result :=
  load8 (.reg .E) (.loc (.reg .H)) s

/-- 0x5D: `LD E,L` (40_load8.md R140). -/
def exec_ld_E_L (s : State) : Result :=
  load8 (.reg .E) (.loc (.reg .L)) s

/-- 0x5F: `LD E,A` (40_load8.md R140). -/
def exec_ld_E_A (s : State) : Result :=
  load8 (.reg .E) (.loc (.reg .A)) s

/-- 0x60: `LD H,B` (40_load8.md R140). -/
def exec_ld_H_B (s : State) : Result :=
  load8 (.reg .H) (.loc (.reg .B)) s

/-- 0x61: `LD H,C` (40_load8.md R140). -/
def exec_ld_H_C (s : State) : Result :=
  load8 (.reg .H) (.loc (.reg .C)) s

/-- 0x62: `LD H,D` (40_load8.md R140). -/
def exec_ld_H_D (s : State) : Result :=
  load8 (.reg .H) (.loc (.reg .D)) s

/-- 0x63: `LD H,E` (40_load8.md R140). -/
def exec_ld_H_E (s : State) : Result :=
  load8 (.reg .H) (.loc (.reg .E)) s

/-- 0x64: `LD H,H` (40_load8.md R140). -/
def exec_ld_H_H (s : State) : Result :=
  load8 (.reg .H) (.loc (.reg .H)) s

/-- 0x65: `LD H,L` (40_load8.md R140). -/
def exec_ld_H_L (s : State) : Result :=
  load8 (.reg .H) (.loc (.reg .L)) s

/-- 0x67: `LD H,A` (40_load8.md R140). -/
def exec_ld_H_A (s : State) : Result :=
  load8 (.reg .H) (.loc (.reg .A)) s

/-- 0x68: `LD L,B` (40_load8.md R140). -/
def exec_ld_L_B (s : State) : Result :=
  load8 (.reg .L) (.loc (.reg .B)) s

/-- 0x69: `LD L,C` (40_load8.md R140). -/
def exec_ld_L_C (s : State) : Result :=
  load8 (.reg .L) (.loc (.reg .C)) s

/-- 0x6A: `LD L,D` (40_load8.md R140). -/
def exec_ld_L_D (s : State) : Result :=
  load8 (.reg .L) (.loc (.reg .D)) s

/-- 0x6B: `LD L,E` (40_load8.md R140). -/
def exec_ld_L_E (s : State) : Result :=
  load8 (.reg .L) (.loc (.reg .E)) s

/-- 0x6C: `LD L,H` (40_load8.md R140). -/
def exec_ld_L_H (s : State) : Result :=
  load8 (.reg .L) (.loc (.reg .H)) s

/-- 0x6D: `LD L,L` (40_load8.md R140). -/
def exec_ld_L_L (s : State) : Result :=
  load8 (.reg .L) (.loc (.reg .L)) s

/-- 0x6F: `LD L,A` (40_load8.md R140). -/
def exec_ld_L_A (s : State) : Result :=
  load8 (.reg .L) (.loc (.reg .A)) s

/-- 0x78: `LD A,B` (40_load8.md R140). -/
def exec_ld_A_B (s : State) : Result :=
  load8 (.reg .A) (.loc (.reg .B)) s

/-- 0x79: `LD A,C` (40_load8.md R140). -/
def exec_ld_A_C (s : State) : Result :=
  load8 (.reg .A) (.loc (.reg .C)) s

/-- 0x7A: `LD A,D` (40_load8.md R140). -/
def exec_ld_A_D (s : State) : Result :=
  load8 (.reg .A) (.loc (.reg .D)) s

/-- 0x7B: `LD A,E` (40_load8.md R140). -/
def exec_ld_A_E (s : State) : Result :=
  load8 (.reg .A) (.loc (.reg .E)) s

/-- 0x7C: `LD A,H` (40_load8.md R140). -/
def exec_ld_A_H (s : State) : Result :=
  load8 (.reg .A) (.loc (.reg .H)) s

/-- 0x7D: `LD A,L` (40_load8.md R140). -/
def exec_ld_A_L (s : State) : Result :=
  load8 (.reg .A) (.loc (.reg .L)) s

/-- 0x7F: `LD A,A` (40_load8.md R140). -/
def exec_ld_A_A (s : State) : Result :=
  load8 (.reg .A) (.loc (.reg .A)) s

/-- 0x46: `LD B,(HL)` (40_load8.md R141). -/
def exec_ld_B_mHL (s : State) : Result :=
  load8 (.reg .B) (.loc (.ind .HL)) s

/-- 0x4E: `LD C,(HL)` (40_load8.md R141). -/
def exec_ld_C_mHL (s : State) : Result :=
  load8 (.reg .C) (.loc (.ind .HL)) s

/-- 0x56: `LD D,(HL)` (40_load8.md R141). -/
def exec_ld_D_mHL (s : State) : Result :=
  load8 (.reg .D) (.loc (.ind .HL)) s

/-- 0x5E: `LD E,(HL)` (40_load8.md R141). -/
def exec_ld_E_mHL (s : State) : Result :=
  load8 (.reg .E) (.loc (.ind .HL)) s

/-- 0x66: `LD H,(HL)` (40_load8.md R141). -/
def exec_ld_H_mHL (s : State) : Result :=
  load8 (.reg .H) (.loc (.ind .HL)) s

/-- 0x6E: `LD L,(HL)` (40_load8.md R141). -/
def exec_ld_L_mHL (s : State) : Result :=
  load8 (.reg .L) (.loc (.ind .HL)) s

/-- 0x7E: `LD A,(HL)` (40_load8.md R141). -/
def exec_ld_A_mHL (s : State) : Result :=
  load8 (.reg .A) (.loc (.ind .HL)) s

/-- 0x70: `LD (HL),B` (40_load8.md R142). -/
def exec_ld_mHL_B (s : State) : Result :=
  load8 (.ind .HL) (.loc (.reg .B)) s

/-- 0x71: `LD (HL),C` (40_load8.md R142). -/
def exec_ld_mHL_C (s : State) : Result :=
  load8 (.ind .HL) (.loc (.reg .C)) s

/-- 0x72: `LD (HL),D` (40_load8.md R142). -/
def exec_ld_mHL_D (s : State) : Result :=
  load8 (.ind .HL) (.loc (.reg .D)) s

/-- 0x73: `LD (HL),E` (40_load8.md R142). -/
def exec_ld_mHL_E (s : State) : Result :=
  load8 (.ind .HL) (.loc (.reg .E)) s

/-- 0x74: `LD (HL),H` (40_load8.md R142). -/
def exec_ld_mHL_H (s : State) : Result :=
  load8 (.ind .HL) (.loc (.reg .H)) s

/-- 0x75: `LD (HL),L` (40_load8.md R142). -/
def exec_ld_mHL_L (s : State) : Result :=
  load8 (.ind .HL) (.loc (.reg .L)) s

/-- 0x77: `LD (HL),A` (40_load8.md R142). -/
def exec_ld_mHL_A (s : State) : Result :=
  load8 (.ind .HL) (.loc (.reg .A)) s

/-- 0x06: `LD B,d8` (40_load8.md R143). -/
def exec_ld_B_d8 (d8 : Byte) (s : State) : Result :=
  load8 (.reg .B) (.imm d8) s

/-- 0x0E: `LD C,d8` (40_load8.md R143). -/
def exec_ld_C_d8 (d8 : Byte) (s : State) : Result :=
  load8 (.reg .C) (.imm d8) s

/-- 0x16: `LD D,d8` (40_load8.md R143). -/
def exec_ld_D_d8 (d8 : Byte) (s : State) : Result :=
  load8 (.reg .D) (.imm d8) s

/-- 0x1E: `LD E,d8` (40_load8.md R143). -/
def exec_ld_E_d8 (d8 : Byte) (s : State) : Result :=
  load8 (.reg .E) (.imm d8) s

/-- 0x26: `LD H,d8` (40_load8.md R143). -/
def exec_ld_H_d8 (d8 : Byte) (s : State) : Result :=
  load8 (.reg .H) (.imm d8) s

/-- 0x2E: `LD L,d8` (40_load8.md R143). -/
def exec_ld_L_d8 (d8 : Byte) (s : State) : Result :=
  load8 (.reg .L) (.imm d8) s

/-- 0x3E: `LD A,d8` (40_load8.md R143). -/
def exec_ld_A_d8 (d8 : Byte) (s : State) : Result :=
  load8 (.reg .A) (.imm d8) s

/-- 0x36: `LD (HL),d8` (40_load8.md R144). -/
def exec_ld_mHL_d8 (d8 : Byte) (s : State) : Result :=
  load8 (.ind .HL) (.imm d8) s

/-- 0x0A: `LD A,(BC)` (40_load8.md R145). -/
def exec_ld_A_mBC (s : State) : Result :=
  load8 (.reg .A) (.loc (.ind .BC)) s

/-- 0x1A: `LD A,(DE)` (40_load8.md R146). -/
def exec_ld_A_mDE (s : State) : Result :=
  load8 (.reg .A) (.loc (.ind .DE)) s

/-- 0x02: `LD (BC),A` (40_load8.md R147). -/
def exec_ld_mBC_A (s : State) : Result :=
  load8 (.ind .BC) (.loc (.reg .A)) s

/-- 0x12: `LD (DE),A` (40_load8.md R148). -/
def exec_ld_mDE_A (s : State) : Result :=
  load8 (.ind .DE) (.loc (.reg .A)) s

/-- 0x22: `LD (HL+),A` (40_load8.md R149). -/
def exec_ld_mHLi_A (s : State) : Result :=
  storeStepHL 1 s

/-- 0x2A: `LD A,(HL+)` (40_load8.md R150). -/
def exec_ld_A_mHLi (s : State) : Result :=
  loadStepHL 1 s

/-- 0x32: `LD (HL-),A` (40_load8.md R151). -/
def exec_ld_mHLd_A (s : State) : Result :=
  storeStepHL (-1) s

/-- 0x3A: `LD A,(HL-)` (40_load8.md R152). -/
def exec_ld_A_mHLd (s : State) : Result :=
  loadStepHL (-1) s

/-- 0xE0: `LDH (a8),A` (40_load8.md R153). -/
def exec_ldh_ma8_A (a8 : Byte) (s : State) : Result :=
  load8 (.high a8) (.loc (.reg .A)) s

/-- 0xF0: `LDH A,(a8)` (40_load8.md R154). -/
def exec_ldh_A_ma8 (a8 : Byte) (s : State) : Result :=
  load8 (.reg .A) (.loc (.high a8)) s

/-- 0xE2: `LD (C),A` (40_load8.md R155). -/
def exec_ld_mC_A (s : State) : Result :=
  load8 .highC (.loc (.reg .A)) s

/-- 0xF2: `LD A,(C)` (40_load8.md R156). -/
def exec_ld_A_mC (s : State) : Result :=
  load8 (.reg .A) (.loc .highC) s

/-- 0xEA: `LD (a16),A` (40_load8.md R157). -/
def exec_ld_ma16_A (a16 : Word) (s : State) : Result :=
  load8 (.abs a16) (.loc (.reg .A)) s

/-- 0xFA: `LD A,(a16)` (40_load8.md R158). -/
def exec_ld_A_ma16 (a16 : Word) (s : State) : Result :=
  load8 (.reg .A) (.loc (.abs a16)) s

end Sys2Proof.Machine
end

