-- ==== Sys2Proof/Machine/Processor.lean ====
section
/-! DEFINITION. Processor control, and the ILLEGAL bytes (spec/46_processor_control.md): the operations the family shares, then one meaning per instruction. PC already
holds `pc_next` when a meaning runs (30_encoding.md R100). -/

namespace Sys2Proof.Machine

/-- `NOP` (R300). -/
def noOperation (s : State) : Result := .next s

/-- `HALT` and `STOP`: `halted <- 1` under `halt_mode = stall`, nothing under `nop` (R301, R302). -/
def haltOrNot (s : State) : Result :=
  match s.params.haltMode with
  | .stall => .next { s with halted := true }
  | .nop => .next s

/-- `DI` and `EI`, at once (R303, R304). -/
def setIme (on : Bool) (s : State) : Result := .next { s with ime := on }

/-- `SCF`: Z kept (R305). -/
def setCarry (s : State) : Result := .next (setFlags (flagZ s) false false true s)

/-- `CCF`: Z kept (R306). -/
def complementCarry (s : State) : Result := .next (setFlags (flagZ s) false false (!flagC s) s)

/-! ### The meanings -/

/-- 0x00: `NOP` (46_processor_control.md R300). -/
def exec_nop (s : State) : Result :=
  noOperation s

/-- 0x76: `HALT` (46_processor_control.md R301). -/
def exec_halt (s : State) : Result :=
  haltOrNot s

/-- 0x10: `STOP` (46_processor_control.md R302). -/
def exec_stop (s : State) : Result :=
  haltOrNot s

/-- 0xF3: `DI` (46_processor_control.md R303). -/
def exec_di (s : State) : Result :=
  setIme false s

/-- 0xFB: `EI` (46_processor_control.md R304). -/
def exec_ei (s : State) : Result :=
  setIme true s

/-- 0x37: `SCF` (46_processor_control.md R305). -/
def exec_scf (s : State) : Result :=
  setCarry s

/-- 0x3F: `CCF` (46_processor_control.md R306). -/
def exec_ccf (s : State) : Result :=
  complementCarry s

/-- An ILLEGAL byte, or one of `unimplemented_opcodes`, at PC: DecodeFault. Decode raises it, so PC still holds the
instruction's own address here (30_encoding.md R111 to R113, 60_exceptions.md R320, R321; log entry 8). -/
def exec_illegal (op : Byte) (s : State) : Result :=
  .next (enterFault (.decodeFault s.pc op) s)


end Sys2Proof.Machine
end

