-- ==== Sys2Proof/Machine/RotateShiftBit.lean ====
section
/-! DEFINITION. Rotates, shifts, swap and bit operations (spec/45_rotate_shift_bit.md): the operations the family shares, then one meaning per instruction. PC already
holds `pc_next` when a meaning runs (30_encoding.md R100). -/

namespace Sys2Proof.Machine

/-- RLCA, RLA, RRCA, RRA: the law `k` on A, with Z = 0 (R270 to R273). -/
def rotateA (k : RotOp) (s : State) : Result :=
  .next { s with a := rotResult k s.a (flagC s), f := flagByte false false false (rotCarry k s.a) }

/-- An extended rotate, shift or SWAP: one Get, one Put, then the flags (R275 to R283). -/
def rotate (k : RotOp) (t : Loc8) (s : State) : Result :=
  finish ((readLoc t s).andThen fun v s1 =>
    (writeLoc t (rotResult k v (flagC s1)) s1).andThen fun _ s2 =>
      .done () (setFlags (rotResult k v (flagC s1) == 0) false false (rotCarry k v) s2))

/-- `BIT b,t`: one Get, nothing written back; C kept (R275, R284). -/
def bitTest (b : Nat) (t : Loc8) (s : State) : Result :=
  finish ((readLoc t s).andThen fun v s1 => .done () (setFlags (!v.getLsbD b) false true (flagC s1) s1))

/-- `RES b,t`: the byte is written back even when the bit was clear; no flag changes (R275, R285). -/
def bitClear (b : Nat) (t : Loc8) (s : State) : Result :=
  finish ((readLoc t s).andThen fun v s1 => writeLoc t (v &&& ~~~((1 : Byte) <<< b)) s1)

/-- `SET b,t`; no flag changes (R275, R286). -/
def bitSet (b : Nat) (t : Loc8) (s : State) : Result :=
  finish ((readLoc t s).andThen fun v s1 => writeLoc t (v ||| ((1 : Byte) <<< b)) s1)

/-! ### The meanings -/

/-- 0x07: `RLCA` (45_rotate_shift_bit.md R270). -/
def exec_rlca (s : State) : Result :=
  rotateA .RLC s

/-- 0x17: `RLA` (45_rotate_shift_bit.md R271). -/
def exec_rla (s : State) : Result :=
  rotateA .RL s

/-- 0x0F: `RRCA` (45_rotate_shift_bit.md R272). -/
def exec_rrca (s : State) : Result :=
  rotateA .RRC s

/-- 0x1F: `RRA` (45_rotate_shift_bit.md R273). -/
def exec_rra (s : State) : Result :=
  rotateA .RR s

/-- CB 0x00: `RLC B` (45_rotate_shift_bit.md R276). -/
def exec_rlc_B (s : State) : Result :=
  rotate .RLC (.reg .B) s

/-- CB 0x01: `RLC C` (45_rotate_shift_bit.md R276). -/
def exec_rlc_C (s : State) : Result :=
  rotate .RLC (.reg .C) s

/-- CB 0x02: `RLC D` (45_rotate_shift_bit.md R276). -/
def exec_rlc_D (s : State) : Result :=
  rotate .RLC (.reg .D) s

/-- CB 0x03: `RLC E` (45_rotate_shift_bit.md R276). -/
def exec_rlc_E (s : State) : Result :=
  rotate .RLC (.reg .E) s

/-- CB 0x04: `RLC H` (45_rotate_shift_bit.md R276). -/
def exec_rlc_H (s : State) : Result :=
  rotate .RLC (.reg .H) s

/-- CB 0x05: `RLC L` (45_rotate_shift_bit.md R276). -/
def exec_rlc_L (s : State) : Result :=
  rotate .RLC (.reg .L) s

/-- CB 0x06: `RLC (HL)` (45_rotate_shift_bit.md R276). -/
def exec_rlc_mHL (s : State) : Result :=
  rotate .RLC (.ind .HL) s

/-- CB 0x07: `RLC A` (45_rotate_shift_bit.md R276). -/
def exec_rlc_A (s : State) : Result :=
  rotate .RLC (.reg .A) s

/-- CB 0x08: `RRC B` (45_rotate_shift_bit.md R277). -/
def exec_rrc_B (s : State) : Result :=
  rotate .RRC (.reg .B) s

/-- CB 0x09: `RRC C` (45_rotate_shift_bit.md R277). -/
def exec_rrc_C (s : State) : Result :=
  rotate .RRC (.reg .C) s

/-- CB 0x0A: `RRC D` (45_rotate_shift_bit.md R277). -/
def exec_rrc_D (s : State) : Result :=
  rotate .RRC (.reg .D) s

/-- CB 0x0B: `RRC E` (45_rotate_shift_bit.md R277). -/
def exec_rrc_E (s : State) : Result :=
  rotate .RRC (.reg .E) s

/-- CB 0x0C: `RRC H` (45_rotate_shift_bit.md R277). -/
def exec_rrc_H (s : State) : Result :=
  rotate .RRC (.reg .H) s

/-- CB 0x0D: `RRC L` (45_rotate_shift_bit.md R277). -/
def exec_rrc_L (s : State) : Result :=
  rotate .RRC (.reg .L) s

/-- CB 0x0E: `RRC (HL)` (45_rotate_shift_bit.md R277). -/
def exec_rrc_mHL (s : State) : Result :=
  rotate .RRC (.ind .HL) s

/-- CB 0x0F: `RRC A` (45_rotate_shift_bit.md R277). -/
def exec_rrc_A (s : State) : Result :=
  rotate .RRC (.reg .A) s

/-- CB 0x10: `RL B` (45_rotate_shift_bit.md R278). -/
def exec_rl_B (s : State) : Result :=
  rotate .RL (.reg .B) s

/-- CB 0x11: `RL C` (45_rotate_shift_bit.md R278). -/
def exec_rl_C (s : State) : Result :=
  rotate .RL (.reg .C) s

/-- CB 0x12: `RL D` (45_rotate_shift_bit.md R278). -/
def exec_rl_D (s : State) : Result :=
  rotate .RL (.reg .D) s

/-- CB 0x13: `RL E` (45_rotate_shift_bit.md R278). -/
def exec_rl_E (s : State) : Result :=
  rotate .RL (.reg .E) s

/-- CB 0x14: `RL H` (45_rotate_shift_bit.md R278). -/
def exec_rl_H (s : State) : Result :=
  rotate .RL (.reg .H) s

/-- CB 0x15: `RL L` (45_rotate_shift_bit.md R278). -/
def exec_rl_L (s : State) : Result :=
  rotate .RL (.reg .L) s

/-- CB 0x16: `RL (HL)` (45_rotate_shift_bit.md R278). -/
def exec_rl_mHL (s : State) : Result :=
  rotate .RL (.ind .HL) s

/-- CB 0x17: `RL A` (45_rotate_shift_bit.md R278). -/
def exec_rl_A (s : State) : Result :=
  rotate .RL (.reg .A) s

/-- CB 0x18: `RR B` (45_rotate_shift_bit.md R279). -/
def exec_rr_B (s : State) : Result :=
  rotate .RR (.reg .B) s

/-- CB 0x19: `RR C` (45_rotate_shift_bit.md R279). -/
def exec_rr_C (s : State) : Result :=
  rotate .RR (.reg .C) s

/-- CB 0x1A: `RR D` (45_rotate_shift_bit.md R279). -/
def exec_rr_D (s : State) : Result :=
  rotate .RR (.reg .D) s

/-- CB 0x1B: `RR E` (45_rotate_shift_bit.md R279). -/
def exec_rr_E (s : State) : Result :=
  rotate .RR (.reg .E) s

/-- CB 0x1C: `RR H` (45_rotate_shift_bit.md R279). -/
def exec_rr_H (s : State) : Result :=
  rotate .RR (.reg .H) s

/-- CB 0x1D: `RR L` (45_rotate_shift_bit.md R279). -/
def exec_rr_L (s : State) : Result :=
  rotate .RR (.reg .L) s

/-- CB 0x1E: `RR (HL)` (45_rotate_shift_bit.md R279). -/
def exec_rr_mHL (s : State) : Result :=
  rotate .RR (.ind .HL) s

/-- CB 0x1F: `RR A` (45_rotate_shift_bit.md R279). -/
def exec_rr_A (s : State) : Result :=
  rotate .RR (.reg .A) s

/-- CB 0x20: `SLA B` (45_rotate_shift_bit.md R280). -/
def exec_sla_B (s : State) : Result :=
  rotate .SLA (.reg .B) s

/-- CB 0x21: `SLA C` (45_rotate_shift_bit.md R280). -/
def exec_sla_C (s : State) : Result :=
  rotate .SLA (.reg .C) s

/-- CB 0x22: `SLA D` (45_rotate_shift_bit.md R280). -/
def exec_sla_D (s : State) : Result :=
  rotate .SLA (.reg .D) s

/-- CB 0x23: `SLA E` (45_rotate_shift_bit.md R280). -/
def exec_sla_E (s : State) : Result :=
  rotate .SLA (.reg .E) s

/-- CB 0x24: `SLA H` (45_rotate_shift_bit.md R280). -/
def exec_sla_H (s : State) : Result :=
  rotate .SLA (.reg .H) s

/-- CB 0x25: `SLA L` (45_rotate_shift_bit.md R280). -/
def exec_sla_L (s : State) : Result :=
  rotate .SLA (.reg .L) s

/-- CB 0x26: `SLA (HL)` (45_rotate_shift_bit.md R280). -/
def exec_sla_mHL (s : State) : Result :=
  rotate .SLA (.ind .HL) s

/-- CB 0x27: `SLA A` (45_rotate_shift_bit.md R280). -/
def exec_sla_A (s : State) : Result :=
  rotate .SLA (.reg .A) s

/-- CB 0x28: `SRA B` (45_rotate_shift_bit.md R281). -/
def exec_sra_B (s : State) : Result :=
  rotate .SRA (.reg .B) s

/-- CB 0x29: `SRA C` (45_rotate_shift_bit.md R281). -/
def exec_sra_C (s : State) : Result :=
  rotate .SRA (.reg .C) s

/-- CB 0x2A: `SRA D` (45_rotate_shift_bit.md R281). -/
def exec_sra_D (s : State) : Result :=
  rotate .SRA (.reg .D) s

/-- CB 0x2B: `SRA E` (45_rotate_shift_bit.md R281). -/
def exec_sra_E (s : State) : Result :=
  rotate .SRA (.reg .E) s

/-- CB 0x2C: `SRA H` (45_rotate_shift_bit.md R281). -/
def exec_sra_H (s : State) : Result :=
  rotate .SRA (.reg .H) s

/-- CB 0x2D: `SRA L` (45_rotate_shift_bit.md R281). -/
def exec_sra_L (s : State) : Result :=
  rotate .SRA (.reg .L) s

/-- CB 0x2E: `SRA (HL)` (45_rotate_shift_bit.md R281). -/
def exec_sra_mHL (s : State) : Result :=
  rotate .SRA (.ind .HL) s

/-- CB 0x2F: `SRA A` (45_rotate_shift_bit.md R281). -/
def exec_sra_A (s : State) : Result :=
  rotate .SRA (.reg .A) s

/-- CB 0x30: `SWAP B` (45_rotate_shift_bit.md R282). -/
def exec_swap_B (s : State) : Result :=
  rotate .SWAP (.reg .B) s

/-- CB 0x31: `SWAP C` (45_rotate_shift_bit.md R282). -/
def exec_swap_C (s : State) : Result :=
  rotate .SWAP (.reg .C) s

/-- CB 0x32: `SWAP D` (45_rotate_shift_bit.md R282). -/
def exec_swap_D (s : State) : Result :=
  rotate .SWAP (.reg .D) s

/-- CB 0x33: `SWAP E` (45_rotate_shift_bit.md R282). -/
def exec_swap_E (s : State) : Result :=
  rotate .SWAP (.reg .E) s

/-- CB 0x34: `SWAP H` (45_rotate_shift_bit.md R282). -/
def exec_swap_H (s : State) : Result :=
  rotate .SWAP (.reg .H) s

/-- CB 0x35: `SWAP L` (45_rotate_shift_bit.md R282). -/
def exec_swap_L (s : State) : Result :=
  rotate .SWAP (.reg .L) s

/-- CB 0x36: `SWAP (HL)` (45_rotate_shift_bit.md R282). -/
def exec_swap_mHL (s : State) : Result :=
  rotate .SWAP (.ind .HL) s

/-- CB 0x37: `SWAP A` (45_rotate_shift_bit.md R282). -/
def exec_swap_A (s : State) : Result :=
  rotate .SWAP (.reg .A) s

/-- CB 0x38: `SRL B` (45_rotate_shift_bit.md R283). -/
def exec_srl_B (s : State) : Result :=
  rotate .SRL (.reg .B) s

/-- CB 0x39: `SRL C` (45_rotate_shift_bit.md R283). -/
def exec_srl_C (s : State) : Result :=
  rotate .SRL (.reg .C) s

/-- CB 0x3A: `SRL D` (45_rotate_shift_bit.md R283). -/
def exec_srl_D (s : State) : Result :=
  rotate .SRL (.reg .D) s

/-- CB 0x3B: `SRL E` (45_rotate_shift_bit.md R283). -/
def exec_srl_E (s : State) : Result :=
  rotate .SRL (.reg .E) s

/-- CB 0x3C: `SRL H` (45_rotate_shift_bit.md R283). -/
def exec_srl_H (s : State) : Result :=
  rotate .SRL (.reg .H) s

/-- CB 0x3D: `SRL L` (45_rotate_shift_bit.md R283). -/
def exec_srl_L (s : State) : Result :=
  rotate .SRL (.reg .L) s

/-- CB 0x3E: `SRL (HL)` (45_rotate_shift_bit.md R283). -/
def exec_srl_mHL (s : State) : Result :=
  rotate .SRL (.ind .HL) s

/-- CB 0x3F: `SRL A` (45_rotate_shift_bit.md R283). -/
def exec_srl_A (s : State) : Result :=
  rotate .SRL (.reg .A) s

/-- CB 0x40: `BIT 0,B` (45_rotate_shift_bit.md R284). -/
def exec_bit_0_B (s : State) : Result :=
  bitTest 0 (.reg .B) s

/-- CB 0x41: `BIT 0,C` (45_rotate_shift_bit.md R284). -/
def exec_bit_0_C (s : State) : Result :=
  bitTest 0 (.reg .C) s

/-- CB 0x42: `BIT 0,D` (45_rotate_shift_bit.md R284). -/
def exec_bit_0_D (s : State) : Result :=
  bitTest 0 (.reg .D) s

/-- CB 0x43: `BIT 0,E` (45_rotate_shift_bit.md R284). -/
def exec_bit_0_E (s : State) : Result :=
  bitTest 0 (.reg .E) s

/-- CB 0x44: `BIT 0,H` (45_rotate_shift_bit.md R284). -/
def exec_bit_0_H (s : State) : Result :=
  bitTest 0 (.reg .H) s

/-- CB 0x45: `BIT 0,L` (45_rotate_shift_bit.md R284). -/
def exec_bit_0_L (s : State) : Result :=
  bitTest 0 (.reg .L) s

/-- CB 0x46: `BIT 0,(HL)` (45_rotate_shift_bit.md R284). -/
def exec_bit_0_mHL (s : State) : Result :=
  bitTest 0 (.ind .HL) s

/-- CB 0x47: `BIT 0,A` (45_rotate_shift_bit.md R284). -/
def exec_bit_0_A (s : State) : Result :=
  bitTest 0 (.reg .A) s

/-- CB 0x48: `BIT 1,B` (45_rotate_shift_bit.md R284). -/
def exec_bit_1_B (s : State) : Result :=
  bitTest 1 (.reg .B) s

/-- CB 0x49: `BIT 1,C` (45_rotate_shift_bit.md R284). -/
def exec_bit_1_C (s : State) : Result :=
  bitTest 1 (.reg .C) s

/-- CB 0x4A: `BIT 1,D` (45_rotate_shift_bit.md R284). -/
def exec_bit_1_D (s : State) : Result :=
  bitTest 1 (.reg .D) s

/-- CB 0x4B: `BIT 1,E` (45_rotate_shift_bit.md R284). -/
def exec_bit_1_E (s : State) : Result :=
  bitTest 1 (.reg .E) s

/-- CB 0x4C: `BIT 1,H` (45_rotate_shift_bit.md R284). -/
def exec_bit_1_H (s : State) : Result :=
  bitTest 1 (.reg .H) s

/-- CB 0x4D: `BIT 1,L` (45_rotate_shift_bit.md R284). -/
def exec_bit_1_L (s : State) : Result :=
  bitTest 1 (.reg .L) s

/-- CB 0x4E: `BIT 1,(HL)` (45_rotate_shift_bit.md R284). -/
def exec_bit_1_mHL (s : State) : Result :=
  bitTest 1 (.ind .HL) s

/-- CB 0x4F: `BIT 1,A` (45_rotate_shift_bit.md R284). -/
def exec_bit_1_A (s : State) : Result :=
  bitTest 1 (.reg .A) s

/-- CB 0x50: `BIT 2,B` (45_rotate_shift_bit.md R284). -/
def exec_bit_2_B (s : State) : Result :=
  bitTest 2 (.reg .B) s

/-- CB 0x51: `BIT 2,C` (45_rotate_shift_bit.md R284). -/
def exec_bit_2_C (s : State) : Result :=
  bitTest 2 (.reg .C) s

/-- CB 0x52: `BIT 2,D` (45_rotate_shift_bit.md R284). -/
def exec_bit_2_D (s : State) : Result :=
  bitTest 2 (.reg .D) s

/-- CB 0x53: `BIT 2,E` (45_rotate_shift_bit.md R284). -/
def exec_bit_2_E (s : State) : Result :=
  bitTest 2 (.reg .E) s

/-- CB 0x54: `BIT 2,H` (45_rotate_shift_bit.md R284). -/
def exec_bit_2_H (s : State) : Result :=
  bitTest 2 (.reg .H) s

/-- CB 0x55: `BIT 2,L` (45_rotate_shift_bit.md R284). -/
def exec_bit_2_L (s : State) : Result :=
  bitTest 2 (.reg .L) s

/-- CB 0x56: `BIT 2,(HL)` (45_rotate_shift_bit.md R284). -/
def exec_bit_2_mHL (s : State) : Result :=
  bitTest 2 (.ind .HL) s

/-- CB 0x57: `BIT 2,A` (45_rotate_shift_bit.md R284). -/
def exec_bit_2_A (s : State) : Result :=
  bitTest 2 (.reg .A) s

/-- CB 0x58: `BIT 3,B` (45_rotate_shift_bit.md R284). -/
def exec_bit_3_B (s : State) : Result :=
  bitTest 3 (.reg .B) s

/-- CB 0x59: `BIT 3,C` (45_rotate_shift_bit.md R284). -/
def exec_bit_3_C (s : State) : Result :=
  bitTest 3 (.reg .C) s

/-- CB 0x5A: `BIT 3,D` (45_rotate_shift_bit.md R284). -/
def exec_bit_3_D (s : State) : Result :=
  bitTest 3 (.reg .D) s

/-- CB 0x5B: `BIT 3,E` (45_rotate_shift_bit.md R284). -/
def exec_bit_3_E (s : State) : Result :=
  bitTest 3 (.reg .E) s

/-- CB 0x5C: `BIT 3,H` (45_rotate_shift_bit.md R284). -/
def exec_bit_3_H (s : State) : Result :=
  bitTest 3 (.reg .H) s

/-- CB 0x5D: `BIT 3,L` (45_rotate_shift_bit.md R284). -/
def exec_bit_3_L (s : State) : Result :=
  bitTest 3 (.reg .L) s

/-- CB 0x5E: `BIT 3,(HL)` (45_rotate_shift_bit.md R284). -/
def exec_bit_3_mHL (s : State) : Result :=
  bitTest 3 (.ind .HL) s

/-- CB 0x5F: `BIT 3,A` (45_rotate_shift_bit.md R284). -/
def exec_bit_3_A (s : State) : Result :=
  bitTest 3 (.reg .A) s

/-- CB 0x60: `BIT 4,B` (45_rotate_shift_bit.md R284). -/
def exec_bit_4_B (s : State) : Result :=
  bitTest 4 (.reg .B) s

/-- CB 0x61: `BIT 4,C` (45_rotate_shift_bit.md R284). -/
def exec_bit_4_C (s : State) : Result :=
  bitTest 4 (.reg .C) s

/-- CB 0x62: `BIT 4,D` (45_rotate_shift_bit.md R284). -/
def exec_bit_4_D (s : State) : Result :=
  bitTest 4 (.reg .D) s

/-- CB 0x63: `BIT 4,E` (45_rotate_shift_bit.md R284). -/
def exec_bit_4_E (s : State) : Result :=
  bitTest 4 (.reg .E) s

/-- CB 0x64: `BIT 4,H` (45_rotate_shift_bit.md R284). -/
def exec_bit_4_H (s : State) : Result :=
  bitTest 4 (.reg .H) s

/-- CB 0x65: `BIT 4,L` (45_rotate_shift_bit.md R284). -/
def exec_bit_4_L (s : State) : Result :=
  bitTest 4 (.reg .L) s

/-- CB 0x66: `BIT 4,(HL)` (45_rotate_shift_bit.md R284). -/
def exec_bit_4_mHL (s : State) : Result :=
  bitTest 4 (.ind .HL) s

/-- CB 0x67: `BIT 4,A` (45_rotate_shift_bit.md R284). -/
def exec_bit_4_A (s : State) : Result :=
  bitTest 4 (.reg .A) s

/-- CB 0x68: `BIT 5,B` (45_rotate_shift_bit.md R284). -/
def exec_bit_5_B (s : State) : Result :=
  bitTest 5 (.reg .B) s

/-- CB 0x69: `BIT 5,C` (45_rotate_shift_bit.md R284). -/
def exec_bit_5_C (s : State) : Result :=
  bitTest 5 (.reg .C) s

/-- CB 0x6A: `BIT 5,D` (45_rotate_shift_bit.md R284). -/
def exec_bit_5_D (s : State) : Result :=
  bitTest 5 (.reg .D) s

/-- CB 0x6B: `BIT 5,E` (45_rotate_shift_bit.md R284). -/
def exec_bit_5_E (s : State) : Result :=
  bitTest 5 (.reg .E) s

/-- CB 0x6C: `BIT 5,H` (45_rotate_shift_bit.md R284). -/
def exec_bit_5_H (s : State) : Result :=
  bitTest 5 (.reg .H) s

/-- CB 0x6D: `BIT 5,L` (45_rotate_shift_bit.md R284). -/
def exec_bit_5_L (s : State) : Result :=
  bitTest 5 (.reg .L) s

/-- CB 0x6E: `BIT 5,(HL)` (45_rotate_shift_bit.md R284). -/
def exec_bit_5_mHL (s : State) : Result :=
  bitTest 5 (.ind .HL) s

/-- CB 0x6F: `BIT 5,A` (45_rotate_shift_bit.md R284). -/
def exec_bit_5_A (s : State) : Result :=
  bitTest 5 (.reg .A) s

/-- CB 0x70: `BIT 6,B` (45_rotate_shift_bit.md R284). -/
def exec_bit_6_B (s : State) : Result :=
  bitTest 6 (.reg .B) s

/-- CB 0x71: `BIT 6,C` (45_rotate_shift_bit.md R284). -/
def exec_bit_6_C (s : State) : Result :=
  bitTest 6 (.reg .C) s

/-- CB 0x72: `BIT 6,D` (45_rotate_shift_bit.md R284). -/
def exec_bit_6_D (s : State) : Result :=
  bitTest 6 (.reg .D) s

/-- CB 0x73: `BIT 6,E` (45_rotate_shift_bit.md R284). -/
def exec_bit_6_E (s : State) : Result :=
  bitTest 6 (.reg .E) s

/-- CB 0x74: `BIT 6,H` (45_rotate_shift_bit.md R284). -/
def exec_bit_6_H (s : State) : Result :=
  bitTest 6 (.reg .H) s

/-- CB 0x75: `BIT 6,L` (45_rotate_shift_bit.md R284). -/
def exec_bit_6_L (s : State) : Result :=
  bitTest 6 (.reg .L) s

/-- CB 0x76: `BIT 6,(HL)` (45_rotate_shift_bit.md R284). -/
def exec_bit_6_mHL (s : State) : Result :=
  bitTest 6 (.ind .HL) s

/-- CB 0x77: `BIT 6,A` (45_rotate_shift_bit.md R284). -/
def exec_bit_6_A (s : State) : Result :=
  bitTest 6 (.reg .A) s

/-- CB 0x78: `BIT 7,B` (45_rotate_shift_bit.md R284). -/
def exec_bit_7_B (s : State) : Result :=
  bitTest 7 (.reg .B) s

/-- CB 0x79: `BIT 7,C` (45_rotate_shift_bit.md R284). -/
def exec_bit_7_C (s : State) : Result :=
  bitTest 7 (.reg .C) s

/-- CB 0x7A: `BIT 7,D` (45_rotate_shift_bit.md R284). -/
def exec_bit_7_D (s : State) : Result :=
  bitTest 7 (.reg .D) s

/-- CB 0x7B: `BIT 7,E` (45_rotate_shift_bit.md R284). -/
def exec_bit_7_E (s : State) : Result :=
  bitTest 7 (.reg .E) s

/-- CB 0x7C: `BIT 7,H` (45_rotate_shift_bit.md R284). -/
def exec_bit_7_H (s : State) : Result :=
  bitTest 7 (.reg .H) s

/-- CB 0x7D: `BIT 7,L` (45_rotate_shift_bit.md R284). -/
def exec_bit_7_L (s : State) : Result :=
  bitTest 7 (.reg .L) s

/-- CB 0x7E: `BIT 7,(HL)` (45_rotate_shift_bit.md R284). -/
def exec_bit_7_mHL (s : State) : Result :=
  bitTest 7 (.ind .HL) s

/-- CB 0x7F: `BIT 7,A` (45_rotate_shift_bit.md R284). -/
def exec_bit_7_A (s : State) : Result :=
  bitTest 7 (.reg .A) s

/-- CB 0x80: `RES 0,B` (45_rotate_shift_bit.md R285). -/
def exec_res_0_B (s : State) : Result :=
  bitClear 0 (.reg .B) s

/-- CB 0x81: `RES 0,C` (45_rotate_shift_bit.md R285). -/
def exec_res_0_C (s : State) : Result :=
  bitClear 0 (.reg .C) s

/-- CB 0x82: `RES 0,D` (45_rotate_shift_bit.md R285). -/
def exec_res_0_D (s : State) : Result :=
  bitClear 0 (.reg .D) s

/-- CB 0x83: `RES 0,E` (45_rotate_shift_bit.md R285). -/
def exec_res_0_E (s : State) : Result :=
  bitClear 0 (.reg .E) s

/-- CB 0x84: `RES 0,H` (45_rotate_shift_bit.md R285). -/
def exec_res_0_H (s : State) : Result :=
  bitClear 0 (.reg .H) s

/-- CB 0x85: `RES 0,L` (45_rotate_shift_bit.md R285). -/
def exec_res_0_L (s : State) : Result :=
  bitClear 0 (.reg .L) s

/-- CB 0x86: `RES 0,(HL)` (45_rotate_shift_bit.md R285). -/
def exec_res_0_mHL (s : State) : Result :=
  bitClear 0 (.ind .HL) s

/-- CB 0x87: `RES 0,A` (45_rotate_shift_bit.md R285). -/
def exec_res_0_A (s : State) : Result :=
  bitClear 0 (.reg .A) s

/-- CB 0x88: `RES 1,B` (45_rotate_shift_bit.md R285). -/
def exec_res_1_B (s : State) : Result :=
  bitClear 1 (.reg .B) s

/-- CB 0x89: `RES 1,C` (45_rotate_shift_bit.md R285). -/
def exec_res_1_C (s : State) : Result :=
  bitClear 1 (.reg .C) s

/-- CB 0x8A: `RES 1,D` (45_rotate_shift_bit.md R285). -/
def exec_res_1_D (s : State) : Result :=
  bitClear 1 (.reg .D) s

/-- CB 0x8B: `RES 1,E` (45_rotate_shift_bit.md R285). -/
def exec_res_1_E (s : State) : Result :=
  bitClear 1 (.reg .E) s

/-- CB 0x8C: `RES 1,H` (45_rotate_shift_bit.md R285). -/
def exec_res_1_H (s : State) : Result :=
  bitClear 1 (.reg .H) s

/-- CB 0x8D: `RES 1,L` (45_rotate_shift_bit.md R285). -/
def exec_res_1_L (s : State) : Result :=
  bitClear 1 (.reg .L) s

/-- CB 0x8E: `RES 1,(HL)` (45_rotate_shift_bit.md R285). -/
def exec_res_1_mHL (s : State) : Result :=
  bitClear 1 (.ind .HL) s

/-- CB 0x8F: `RES 1,A` (45_rotate_shift_bit.md R285). -/
def exec_res_1_A (s : State) : Result :=
  bitClear 1 (.reg .A) s

/-- CB 0x90: `RES 2,B` (45_rotate_shift_bit.md R285). -/
def exec_res_2_B (s : State) : Result :=
  bitClear 2 (.reg .B) s

/-- CB 0x91: `RES 2,C` (45_rotate_shift_bit.md R285). -/
def exec_res_2_C (s : State) : Result :=
  bitClear 2 (.reg .C) s

/-- CB 0x92: `RES 2,D` (45_rotate_shift_bit.md R285). -/
def exec_res_2_D (s : State) : Result :=
  bitClear 2 (.reg .D) s

/-- CB 0x93: `RES 2,E` (45_rotate_shift_bit.md R285). -/
def exec_res_2_E (s : State) : Result :=
  bitClear 2 (.reg .E) s

/-- CB 0x94: `RES 2,H` (45_rotate_shift_bit.md R285). -/
def exec_res_2_H (s : State) : Result :=
  bitClear 2 (.reg .H) s

/-- CB 0x95: `RES 2,L` (45_rotate_shift_bit.md R285). -/
def exec_res_2_L (s : State) : Result :=
  bitClear 2 (.reg .L) s

/-- CB 0x96: `RES 2,(HL)` (45_rotate_shift_bit.md R285). -/
def exec_res_2_mHL (s : State) : Result :=
  bitClear 2 (.ind .HL) s

/-- CB 0x97: `RES 2,A` (45_rotate_shift_bit.md R285). -/
def exec_res_2_A (s : State) : Result :=
  bitClear 2 (.reg .A) s

/-- CB 0x98: `RES 3,B` (45_rotate_shift_bit.md R285). -/
def exec_res_3_B (s : State) : Result :=
  bitClear 3 (.reg .B) s

/-- CB 0x99: `RES 3,C` (45_rotate_shift_bit.md R285). -/
def exec_res_3_C (s : State) : Result :=
  bitClear 3 (.reg .C) s

/-- CB 0x9A: `RES 3,D` (45_rotate_shift_bit.md R285). -/
def exec_res_3_D (s : State) : Result :=
  bitClear 3 (.reg .D) s

/-- CB 0x9B: `RES 3,E` (45_rotate_shift_bit.md R285). -/
def exec_res_3_E (s : State) : Result :=
  bitClear 3 (.reg .E) s

/-- CB 0x9C: `RES 3,H` (45_rotate_shift_bit.md R285). -/
def exec_res_3_H (s : State) : Result :=
  bitClear 3 (.reg .H) s

/-- CB 0x9D: `RES 3,L` (45_rotate_shift_bit.md R285). -/
def exec_res_3_L (s : State) : Result :=
  bitClear 3 (.reg .L) s

/-- CB 0x9E: `RES 3,(HL)` (45_rotate_shift_bit.md R285). -/
def exec_res_3_mHL (s : State) : Result :=
  bitClear 3 (.ind .HL) s

/-- CB 0x9F: `RES 3,A` (45_rotate_shift_bit.md R285). -/
def exec_res_3_A (s : State) : Result :=
  bitClear 3 (.reg .A) s

/-- CB 0xA0: `RES 4,B` (45_rotate_shift_bit.md R285). -/
def exec_res_4_B (s : State) : Result :=
  bitClear 4 (.reg .B) s

/-- CB 0xA1: `RES 4,C` (45_rotate_shift_bit.md R285). -/
def exec_res_4_C (s : State) : Result :=
  bitClear 4 (.reg .C) s

/-- CB 0xA2: `RES 4,D` (45_rotate_shift_bit.md R285). -/
def exec_res_4_D (s : State) : Result :=
  bitClear 4 (.reg .D) s

/-- CB 0xA3: `RES 4,E` (45_rotate_shift_bit.md R285). -/
def exec_res_4_E (s : State) : Result :=
  bitClear 4 (.reg .E) s

/-- CB 0xA4: `RES 4,H` (45_rotate_shift_bit.md R285). -/
def exec_res_4_H (s : State) : Result :=
  bitClear 4 (.reg .H) s

/-- CB 0xA5: `RES 4,L` (45_rotate_shift_bit.md R285). -/
def exec_res_4_L (s : State) : Result :=
  bitClear 4 (.reg .L) s

/-- CB 0xA6: `RES 4,(HL)` (45_rotate_shift_bit.md R285). -/
def exec_res_4_mHL (s : State) : Result :=
  bitClear 4 (.ind .HL) s

/-- CB 0xA7: `RES 4,A` (45_rotate_shift_bit.md R285). -/
def exec_res_4_A (s : State) : Result :=
  bitClear 4 (.reg .A) s

/-- CB 0xA8: `RES 5,B` (45_rotate_shift_bit.md R285). -/
def exec_res_5_B (s : State) : Result :=
  bitClear 5 (.reg .B) s

/-- CB 0xA9: `RES 5,C` (45_rotate_shift_bit.md R285). -/
def exec_res_5_C (s : State) : Result :=
  bitClear 5 (.reg .C) s

/-- CB 0xAA: `RES 5,D` (45_rotate_shift_bit.md R285). -/
def exec_res_5_D (s : State) : Result :=
  bitClear 5 (.reg .D) s

/-- CB 0xAB: `RES 5,E` (45_rotate_shift_bit.md R285). -/
def exec_res_5_E (s : State) : Result :=
  bitClear 5 (.reg .E) s

/-- CB 0xAC: `RES 5,H` (45_rotate_shift_bit.md R285). -/
def exec_res_5_H (s : State) : Result :=
  bitClear 5 (.reg .H) s

/-- CB 0xAD: `RES 5,L` (45_rotate_shift_bit.md R285). -/
def exec_res_5_L (s : State) : Result :=
  bitClear 5 (.reg .L) s

/-- CB 0xAE: `RES 5,(HL)` (45_rotate_shift_bit.md R285). -/
def exec_res_5_mHL (s : State) : Result :=
  bitClear 5 (.ind .HL) s

/-- CB 0xAF: `RES 5,A` (45_rotate_shift_bit.md R285). -/
def exec_res_5_A (s : State) : Result :=
  bitClear 5 (.reg .A) s

/-- CB 0xB0: `RES 6,B` (45_rotate_shift_bit.md R285). -/
def exec_res_6_B (s : State) : Result :=
  bitClear 6 (.reg .B) s

/-- CB 0xB1: `RES 6,C` (45_rotate_shift_bit.md R285). -/
def exec_res_6_C (s : State) : Result :=
  bitClear 6 (.reg .C) s

/-- CB 0xB2: `RES 6,D` (45_rotate_shift_bit.md R285). -/
def exec_res_6_D (s : State) : Result :=
  bitClear 6 (.reg .D) s

/-- CB 0xB3: `RES 6,E` (45_rotate_shift_bit.md R285). -/
def exec_res_6_E (s : State) : Result :=
  bitClear 6 (.reg .E) s

/-- CB 0xB4: `RES 6,H` (45_rotate_shift_bit.md R285). -/
def exec_res_6_H (s : State) : Result :=
  bitClear 6 (.reg .H) s

/-- CB 0xB5: `RES 6,L` (45_rotate_shift_bit.md R285). -/
def exec_res_6_L (s : State) : Result :=
  bitClear 6 (.reg .L) s

/-- CB 0xB6: `RES 6,(HL)` (45_rotate_shift_bit.md R285). -/
def exec_res_6_mHL (s : State) : Result :=
  bitClear 6 (.ind .HL) s

/-- CB 0xB7: `RES 6,A` (45_rotate_shift_bit.md R285). -/
def exec_res_6_A (s : State) : Result :=
  bitClear 6 (.reg .A) s

/-- CB 0xB8: `RES 7,B` (45_rotate_shift_bit.md R285). -/
def exec_res_7_B (s : State) : Result :=
  bitClear 7 (.reg .B) s

/-- CB 0xB9: `RES 7,C` (45_rotate_shift_bit.md R285). -/
def exec_res_7_C (s : State) : Result :=
  bitClear 7 (.reg .C) s

/-- CB 0xBA: `RES 7,D` (45_rotate_shift_bit.md R285). -/
def exec_res_7_D (s : State) : Result :=
  bitClear 7 (.reg .D) s

/-- CB 0xBB: `RES 7,E` (45_rotate_shift_bit.md R285). -/
def exec_res_7_E (s : State) : Result :=
  bitClear 7 (.reg .E) s

/-- CB 0xBC: `RES 7,H` (45_rotate_shift_bit.md R285). -/
def exec_res_7_H (s : State) : Result :=
  bitClear 7 (.reg .H) s

/-- CB 0xBD: `RES 7,L` (45_rotate_shift_bit.md R285). -/
def exec_res_7_L (s : State) : Result :=
  bitClear 7 (.reg .L) s

/-- CB 0xBE: `RES 7,(HL)` (45_rotate_shift_bit.md R285). -/
def exec_res_7_mHL (s : State) : Result :=
  bitClear 7 (.ind .HL) s

/-- CB 0xBF: `RES 7,A` (45_rotate_shift_bit.md R285). -/
def exec_res_7_A (s : State) : Result :=
  bitClear 7 (.reg .A) s

/-- CB 0xC0: `SET 0,B` (45_rotate_shift_bit.md R286). -/
def exec_set_0_B (s : State) : Result :=
  bitSet 0 (.reg .B) s

/-- CB 0xC1: `SET 0,C` (45_rotate_shift_bit.md R286). -/
def exec_set_0_C (s : State) : Result :=
  bitSet 0 (.reg .C) s

/-- CB 0xC2: `SET 0,D` (45_rotate_shift_bit.md R286). -/
def exec_set_0_D (s : State) : Result :=
  bitSet 0 (.reg .D) s

/-- CB 0xC3: `SET 0,E` (45_rotate_shift_bit.md R286). -/
def exec_set_0_E (s : State) : Result :=
  bitSet 0 (.reg .E) s

/-- CB 0xC4: `SET 0,H` (45_rotate_shift_bit.md R286). -/
def exec_set_0_H (s : State) : Result :=
  bitSet 0 (.reg .H) s

/-- CB 0xC5: `SET 0,L` (45_rotate_shift_bit.md R286). -/
def exec_set_0_L (s : State) : Result :=
  bitSet 0 (.reg .L) s

/-- CB 0xC6: `SET 0,(HL)` (45_rotate_shift_bit.md R286). -/
def exec_set_0_mHL (s : State) : Result :=
  bitSet 0 (.ind .HL) s

/-- CB 0xC7: `SET 0,A` (45_rotate_shift_bit.md R286). -/
def exec_set_0_A (s : State) : Result :=
  bitSet 0 (.reg .A) s

/-- CB 0xC8: `SET 1,B` (45_rotate_shift_bit.md R286). -/
def exec_set_1_B (s : State) : Result :=
  bitSet 1 (.reg .B) s

/-- CB 0xC9: `SET 1,C` (45_rotate_shift_bit.md R286). -/
def exec_set_1_C (s : State) : Result :=
  bitSet 1 (.reg .C) s

/-- CB 0xCA: `SET 1,D` (45_rotate_shift_bit.md R286). -/
def exec_set_1_D (s : State) : Result :=
  bitSet 1 (.reg .D) s

/-- CB 0xCB: `SET 1,E` (45_rotate_shift_bit.md R286). -/
def exec_set_1_E (s : State) : Result :=
  bitSet 1 (.reg .E) s

/-- CB 0xCC: `SET 1,H` (45_rotate_shift_bit.md R286). -/
def exec_set_1_H (s : State) : Result :=
  bitSet 1 (.reg .H) s

/-- CB 0xCD: `SET 1,L` (45_rotate_shift_bit.md R286). -/
def exec_set_1_L (s : State) : Result :=
  bitSet 1 (.reg .L) s

/-- CB 0xCE: `SET 1,(HL)` (45_rotate_shift_bit.md R286). -/
def exec_set_1_mHL (s : State) : Result :=
  bitSet 1 (.ind .HL) s

/-- CB 0xCF: `SET 1,A` (45_rotate_shift_bit.md R286). -/
def exec_set_1_A (s : State) : Result :=
  bitSet 1 (.reg .A) s

/-- CB 0xD0: `SET 2,B` (45_rotate_shift_bit.md R286). -/
def exec_set_2_B (s : State) : Result :=
  bitSet 2 (.reg .B) s

/-- CB 0xD1: `SET 2,C` (45_rotate_shift_bit.md R286). -/
def exec_set_2_C (s : State) : Result :=
  bitSet 2 (.reg .C) s

/-- CB 0xD2: `SET 2,D` (45_rotate_shift_bit.md R286). -/
def exec_set_2_D (s : State) : Result :=
  bitSet 2 (.reg .D) s

/-- CB 0xD3: `SET 2,E` (45_rotate_shift_bit.md R286). -/
def exec_set_2_E (s : State) : Result :=
  bitSet 2 (.reg .E) s

/-- CB 0xD4: `SET 2,H` (45_rotate_shift_bit.md R286). -/
def exec_set_2_H (s : State) : Result :=
  bitSet 2 (.reg .H) s

/-- CB 0xD5: `SET 2,L` (45_rotate_shift_bit.md R286). -/
def exec_set_2_L (s : State) : Result :=
  bitSet 2 (.reg .L) s

/-- CB 0xD6: `SET 2,(HL)` (45_rotate_shift_bit.md R286). -/
def exec_set_2_mHL (s : State) : Result :=
  bitSet 2 (.ind .HL) s

/-- CB 0xD7: `SET 2,A` (45_rotate_shift_bit.md R286). -/
def exec_set_2_A (s : State) : Result :=
  bitSet 2 (.reg .A) s

/-- CB 0xD8: `SET 3,B` (45_rotate_shift_bit.md R286). -/
def exec_set_3_B (s : State) : Result :=
  bitSet 3 (.reg .B) s

/-- CB 0xD9: `SET 3,C` (45_rotate_shift_bit.md R286). -/
def exec_set_3_C (s : State) : Result :=
  bitSet 3 (.reg .C) s

/-- CB 0xDA: `SET 3,D` (45_rotate_shift_bit.md R286). -/
def exec_set_3_D (s : State) : Result :=
  bitSet 3 (.reg .D) s

/-- CB 0xDB: `SET 3,E` (45_rotate_shift_bit.md R286). -/
def exec_set_3_E (s : State) : Result :=
  bitSet 3 (.reg .E) s

/-- CB 0xDC: `SET 3,H` (45_rotate_shift_bit.md R286). -/
def exec_set_3_H (s : State) : Result :=
  bitSet 3 (.reg .H) s

/-- CB 0xDD: `SET 3,L` (45_rotate_shift_bit.md R286). -/
def exec_set_3_L (s : State) : Result :=
  bitSet 3 (.reg .L) s

/-- CB 0xDE: `SET 3,(HL)` (45_rotate_shift_bit.md R286). -/
def exec_set_3_mHL (s : State) : Result :=
  bitSet 3 (.ind .HL) s

/-- CB 0xDF: `SET 3,A` (45_rotate_shift_bit.md R286). -/
def exec_set_3_A (s : State) : Result :=
  bitSet 3 (.reg .A) s

/-- CB 0xE0: `SET 4,B` (45_rotate_shift_bit.md R286). -/
def exec_set_4_B (s : State) : Result :=
  bitSet 4 (.reg .B) s

/-- CB 0xE1: `SET 4,C` (45_rotate_shift_bit.md R286). -/
def exec_set_4_C (s : State) : Result :=
  bitSet 4 (.reg .C) s

/-- CB 0xE2: `SET 4,D` (45_rotate_shift_bit.md R286). -/
def exec_set_4_D (s : State) : Result :=
  bitSet 4 (.reg .D) s

/-- CB 0xE3: `SET 4,E` (45_rotate_shift_bit.md R286). -/
def exec_set_4_E (s : State) : Result :=
  bitSet 4 (.reg .E) s

/-- CB 0xE4: `SET 4,H` (45_rotate_shift_bit.md R286). -/
def exec_set_4_H (s : State) : Result :=
  bitSet 4 (.reg .H) s

/-- CB 0xE5: `SET 4,L` (45_rotate_shift_bit.md R286). -/
def exec_set_4_L (s : State) : Result :=
  bitSet 4 (.reg .L) s

/-- CB 0xE6: `SET 4,(HL)` (45_rotate_shift_bit.md R286). -/
def exec_set_4_mHL (s : State) : Result :=
  bitSet 4 (.ind .HL) s

/-- CB 0xE7: `SET 4,A` (45_rotate_shift_bit.md R286). -/
def exec_set_4_A (s : State) : Result :=
  bitSet 4 (.reg .A) s

/-- CB 0xE8: `SET 5,B` (45_rotate_shift_bit.md R286). -/
def exec_set_5_B (s : State) : Result :=
  bitSet 5 (.reg .B) s

/-- CB 0xE9: `SET 5,C` (45_rotate_shift_bit.md R286). -/
def exec_set_5_C (s : State) : Result :=
  bitSet 5 (.reg .C) s

/-- CB 0xEA: `SET 5,D` (45_rotate_shift_bit.md R286). -/
def exec_set_5_D (s : State) : Result :=
  bitSet 5 (.reg .D) s

/-- CB 0xEB: `SET 5,E` (45_rotate_shift_bit.md R286). -/
def exec_set_5_E (s : State) : Result :=
  bitSet 5 (.reg .E) s

/-- CB 0xEC: `SET 5,H` (45_rotate_shift_bit.md R286). -/
def exec_set_5_H (s : State) : Result :=
  bitSet 5 (.reg .H) s

/-- CB 0xED: `SET 5,L` (45_rotate_shift_bit.md R286). -/
def exec_set_5_L (s : State) : Result :=
  bitSet 5 (.reg .L) s

/-- CB 0xEE: `SET 5,(HL)` (45_rotate_shift_bit.md R286). -/
def exec_set_5_mHL (s : State) : Result :=
  bitSet 5 (.ind .HL) s

/-- CB 0xEF: `SET 5,A` (45_rotate_shift_bit.md R286). -/
def exec_set_5_A (s : State) : Result :=
  bitSet 5 (.reg .A) s

/-- CB 0xF0: `SET 6,B` (45_rotate_shift_bit.md R286). -/
def exec_set_6_B (s : State) : Result :=
  bitSet 6 (.reg .B) s

/-- CB 0xF1: `SET 6,C` (45_rotate_shift_bit.md R286). -/
def exec_set_6_C (s : State) : Result :=
  bitSet 6 (.reg .C) s

/-- CB 0xF2: `SET 6,D` (45_rotate_shift_bit.md R286). -/
def exec_set_6_D (s : State) : Result :=
  bitSet 6 (.reg .D) s

/-- CB 0xF3: `SET 6,E` (45_rotate_shift_bit.md R286). -/
def exec_set_6_E (s : State) : Result :=
  bitSet 6 (.reg .E) s

/-- CB 0xF4: `SET 6,H` (45_rotate_shift_bit.md R286). -/
def exec_set_6_H (s : State) : Result :=
  bitSet 6 (.reg .H) s

/-- CB 0xF5: `SET 6,L` (45_rotate_shift_bit.md R286). -/
def exec_set_6_L (s : State) : Result :=
  bitSet 6 (.reg .L) s

/-- CB 0xF6: `SET 6,(HL)` (45_rotate_shift_bit.md R286). -/
def exec_set_6_mHL (s : State) : Result :=
  bitSet 6 (.ind .HL) s

/-- CB 0xF7: `SET 6,A` (45_rotate_shift_bit.md R286). -/
def exec_set_6_A (s : State) : Result :=
  bitSet 6 (.reg .A) s

/-- CB 0xF8: `SET 7,B` (45_rotate_shift_bit.md R286). -/
def exec_set_7_B (s : State) : Result :=
  bitSet 7 (.reg .B) s

/-- CB 0xF9: `SET 7,C` (45_rotate_shift_bit.md R286). -/
def exec_set_7_C (s : State) : Result :=
  bitSet 7 (.reg .C) s

/-- CB 0xFA: `SET 7,D` (45_rotate_shift_bit.md R286). -/
def exec_set_7_D (s : State) : Result :=
  bitSet 7 (.reg .D) s

/-- CB 0xFB: `SET 7,E` (45_rotate_shift_bit.md R286). -/
def exec_set_7_E (s : State) : Result :=
  bitSet 7 (.reg .E) s

/-- CB 0xFC: `SET 7,H` (45_rotate_shift_bit.md R286). -/
def exec_set_7_H (s : State) : Result :=
  bitSet 7 (.reg .H) s

/-- CB 0xFD: `SET 7,L` (45_rotate_shift_bit.md R286). -/
def exec_set_7_L (s : State) : Result :=
  bitSet 7 (.reg .L) s

/-- CB 0xFE: `SET 7,(HL)` (45_rotate_shift_bit.md R286). -/
def exec_set_7_mHL (s : State) : Result :=
  bitSet 7 (.ind .HL) s

/-- CB 0xFF: `SET 7,A` (45_rotate_shift_bit.md R286). -/
def exec_set_7_A (s : State) : Result :=
  bitSet 7 (.reg .A) s

end Sys2Proof.Machine
end

