-- ==== Sys2Proof/Machine/Fetch.lean ====
section
/-! DEFINITION. Fetching and decoding the instruction at PC (spec/30_encoding.md R111), advancing PC (R100), and the
cycle costs decode reads from the tables (70_reset_and_hazards.md R370). -/

namespace Sys2Proof.Machine

/-- What `Decode(addr)` returns (30_encoding.md R111): the instruction, its length, its cycle cost. For a byte that
raises DecodeFault the length is 0, since the step ends before PC changes (R112), and the cost is of no use. -/
structure Fetched where
  instr : Instr
  len : Nat
  cost : Nat
deriving DecidableEq, Repr

/-- `cycles_primary(op)` (70_reset_and_hazards.md R370): the rule fixes NOP at 4 and CALL a16 at 12, whatever the
parameter holds there, and every other value is the parameter's; a table shorter than 256 entries costs 0 beyond its
end (log entry 17). -/
def cyclesPrimary (op : Byte) (s : State) : Nat :=
  if op = 0x00 then 4
  else if op = 0xCD then 12
  else s.params.cyclesPrimary.getD op.toNat 0

/-- `cycles_cb_inner(op2)` (70_reset_and_hazards.md R370). -/
def cyclesCbInner (op2 : Byte) (s : State) : Nat := s.params.cyclesCbInner.getD op2.toNat 0

/-- The decoder treats `op` as ILLEGAL because the parameter says so; the 0xCB byte never is (30_encoding.md R113). -/
def unimplemented (op : Byte) (s : State) : Bool :=
  decide (op ≠ 0xCB) && s.params.unimplementedOpcodes.contains op

/-- `Decode(addr)` (30_encoding.md R111): the opcode byte, then the bytes it announces, each read where it lies,
the addresses wrapping. -/
def decodeAt (addr : Word) (s : State) : Access Fetched :=
  (readByte addr s).andThen fun op s1 =>
    if unimplemented op s then .done { instr := .illegal op, len := 0, cost := 0 } s1
    else
      match primaryEntry op with
      | .op i => .done { instr := i, len := 1, cost := cyclesPrimary op s } s1
      | .imm8 f =>
        (readByte (addr + 1) s1).andThen fun b1 s2 =>
          .done { instr := f b1, len := 2, cost := cyclesPrimary op s } s2
      | .imm16 f =>
        (readByte (addr + 1) s1).andThen fun b1 s2 =>
          (readByte (addr + 2) s2).andThen fun b2 s3 =>
            .done { instr := f (wordOfBytes b2 b1), len := 3, cost := cyclesPrimary op s } s3
      | .cbTable =>
        (readByte (addr + 1) s1).andThen fun op2 s2 =>
          .done { instr := extended op2, len := 2, cost := 1 + cyclesCbInner op2 s } s2
      | .illegal => .done { instr := .illegal op, len := 0, cost := 0 } s1

/-- The fetch of a step: `Decode(pc)` (30_encoding.md R100). -/
def fetch (s : State) : Access Fetched := decodeAt s.pc s

/-- `pc <- pc +16 len` (30_encoding.md R100, 10_state.md R25). -/
def advance (len : Nat) (s : State) : State := { s with pc := s.pc + BitVec.ofNat 16 len }

/-- The state in which an instruction placed at PC runs at the next step: running and not halted. -/
def ready (s : State) : State := { s with status := .running, halted := false }

end Sys2Proof.Machine
end

