-- ==== Sys2Proof/Machine/Step.lean ====
section
/-! DEFINITION. One step of the core (spec/30_encoding.md R100), and placing an instruction where it fetches. -/

namespace Sys2Proof.Machine

/-- `Step(s)` (30_encoding.md R100): no next state from a faulted state (10_state.md R34); nothing while halted
(46_processor_control.md R307); else decode at PC, advance PC, execute. A fault in Decode leaves PC at the
instruction's own address (60_exceptions.md R320). -/
def step (s : State) : Host.Outcome State Fault Refusal :=
  match s.status with
  | .faulted f => .fault (.stopped f)
  | .running =>
    if s.halted then .next s
    else
      match fetch s with
      | .raised f s1 => .next (enterFault f s1)
      | .done d s1 => exec d.instr (advance d.len s1)

/-- `s` with the instruction of a word of the opcode table placed at PC, so that the next step runs it (log
entry 9). -/
def State.withFetchWord (s : State) (nbits w : Nat) : State := placeBytes s.pc (tableBytes nbits w) (ready s)

end Sys2Proof.Machine
end

