-- ==== Sys2Proof/Machine/Timing.lean ====
section
/-! DEFINITION. The cycle cost a step returns (spec/70_reset_and_hazards.md R370): `Host.Outcome` carries a state and
no number, so the cost is a function of its own beside `step` (log entry 5). -/

namespace Sys2Proof.Machine

/-- The cost of an instruction's step, returned unless it ended in a fault (60_exceptions.md R320). -/
def costUnlessFaulted (cost : Nat) (r : Result) : Option Nat :=
  match r with
  | .next s => if s.status = .running then some cost else none
  | .fault _ => none
  | .refused _ => none

/-- The cycle cost `step s` returns: 4 while halted, the decoded instruction's constant otherwise, and none when the
step raises a fault or there is no step (70_reset_and_hazards.md R370, 60_exceptions.md R320). -/
def stepCost (s : State) : Option Nat :=
  match s.status with
  | .faulted _ => none
  | .running =>
    if s.halted then some 4
    else
      match fetch s with
      | .raised _ _ => none
      | .done d s1 => costUnlessFaulted d.cost (exec d.instr (advance d.len s1))

end Sys2Proof.Machine
end

