-- ==== Sys2Proof/Safety.lean ====
section
/-! DEFINITION. The terms in which claims speak of a run: what a safe state is (the invariant), which accesses raise no
fault, what an access answers, and what an instruction leaves alone. Nothing here is used by the machine. -/

namespace Sys2Proof.Machine

/-! ### States -/

/-- The next step fetches: running (10_state.md R34) and not halted (R33). -/
abbrev Running (s : State) : Prop := s.status = .running ∧ s.halted = false

/-- `rom_bank` is never 0, and is what some write selects (10_state.md R39, 20_memory.md R74). -/
abbrev BankLegal (s : State) : Prop :=
  s.romBank ≠ 0x00 ∧ (s.romBank = 0x01 ∨ s.romBank &&& s.params.romBankMask = s.romBank)

/-- A memory of `n` bytes in the canonical form. -/
abbrev ArrayOf (n : Nat) (m : Memory) : Prop := Memory.wf m = true ∧ Memory.below n m = true

/-- The invariant of a core: F's low nibble is 0 (10_state.md R21), the bank is legal (R39), and WRAM, HRAM and
cartridge RAM are arrays of their sizes in the canonical form (R35, R36, R40). -/
abbrev State.Inv (s : State) : Prop :=
  s.f &&& 0x0F = 0x00 ∧ BankLegal s ∧
    ArrayOf 0x2000 s.wram ∧ ArrayOf 0x80 s.hram ∧ ArrayOf 0x2000 s.cartRam

/-- `s` with everything forgotten that no rule of the core reads: IME (10_state.md R32), the mapper's mode
(20_memory.md R77) and the serial buffers (10_state.md R41). -/
def forgetUnread (s : State) : State :=
  { s with ime := false, mapperMode := .rom16M_ram8K, serialLine := [], serialOut := [] }

/-! ### Accesses -/

/-- A read of `addr` raises no fault: it is no ROM address, or its image index lies in the image
(20_memory.md R63, R77, 60_exceptions.md R323). -/
abbrev Readable (addr : Word) (s : State) : Prop := addr.toNat < 0x8000 → romIndex addr s < s.params.romLen

/-- A write to `addr` raises no fault: it is no ROM address, or it lies in one of the mapper's two control ranges
(20_memory.md R76, 60_exceptions.md R322). -/
abbrev Writable (addr : Word) : Prop :=
  addr.toNat < 0x8000 →
    (0x2000 ≤ addr.toNat ∧ addr.toNat ≤ 0x3FFF) ∨ (0x6000 ≤ addr.toNat ∧ addr.toNat ≤ 0x7FFF)

/-- `addr` has a byte of storage that a write sets and a read gives back: WRAM, its echo, HRAM, IE, or cartridge RAM
under `cart_ram_mode = backed(8192)` (20_memory.md R64, R65, R67, R70, R73). -/
abbrev Stored (addr : Word) (s : State) : Prop :=
  (0xC000 ≤ addr.toNat ∧ addr.toNat ≤ 0xFDFF) ∨ (0xFF80 ≤ addr.toNat ∧ addr.toNat ≤ 0xFFFF) ∨
    (0xA000 ≤ addr.toNat ∧ addr.toNat ≤ 0xBFFF ∧ s.params.cartRamMode = .backed8K)

/-- The state after `n` byte reads at consecutive addresses: only the model's draw counter can have moved. -/
def afterReads (addr : Word) (n : Nat) (s : State) : State :=
  match n with
  | 0 => s
  | n + 1 => afterReads (addr + 1) n (afterRead addr s)

/-- `Get()` on a target answers `v` and leaves `s1` (45_rotate_shift_bit.md R275). -/
def TargetGives (t : Target) (s : State) (v : Byte) (s1 : State) : Prop :=
  match t with
  | .reg r => v = getReg r s ∧ s1 = s
  | .mHL => readValue (getPair .HL s) s = .ok v ∧ s1 = afterRead (getPair .HL s) s

/-- `Put(v)` on a target leaves `s1` (45_rotate_shift_bit.md R275). -/
def TargetTakes (t : Target) (v : Byte) (s s1 : State) : Prop :=
  match t with
  | .reg r => s1 = setReg r v s
  | .mHL => writeByte (getPair .HL s) v s = .done () s1

/-- `Get()` raises no fault. -/
def TargetReadable (t : Target) (s : State) : Prop :=
  match t with
  | .reg _ => True
  | .mHL => Readable (getPair .HL s) s

/-- `Put(v)` raises no fault. -/
def TargetWritable (t : Target) (s : State) : Prop :=
  match t with
  | .reg _ => True
  | .mHL => Writable (getPair .HL s)

/-! ### What an instruction answers -/

/-- `r` is a load of the byte at `addr` into register `d` and nothing else, or the read-fault of `addr`. -/
def LoadsByte (r : Result) (d : Reg8) (addr : Word) (s : State) : Prop :=
  (Readable addr s → ∃ v, readValue addr s = .ok v ∧ r = .next (setReg d v (afterRead addr s))) ∧
    (¬ Readable addr s → r = .next (enterFault (.romRangeFault addr) s))

/-- `r` is a store of the byte `v` at `addr` and nothing else, or the write-fault of `addr`. -/
def StoresByte (r : Result) (addr : Word) (v : Byte) (s : State) : Prop :=
  (Writable addr → ∃ t, writeByte addr v s = .done () t ∧ r = .next t) ∧
    (¬ Writable addr → r = .next (enterFault (.mapperConfigFault addr v) s))

/-- `r` stores the word `v` at `addr` from state `s`, low byte first, and then does `post`; a fault on the first byte
leaves `s`, a fault on the second leaves the first byte stored, and neither does `post` (20_memory.md R79,
60_exceptions.md R320, R326). -/
def StoresWord (r : Result) (addr v : Word) (s : State) (post : State → State) : Prop :=
  (Writable addr → Writable (addr + 1) → ∃ s1 t, writeByte addr (lowByte v) s = .done () s1 ∧
      writeByte (addr + 1) (highByte v) s1 = .done () t ∧ r = .next (post t)) ∧
    (¬ Writable addr → r = .next (enterFault (.mapperConfigFault addr (lowByte v)) s)) ∧
    (Writable addr → ¬ Writable (addr + 1) → ∃ s1, writeByte addr (lowByte v) s = .done () s1 ∧
      r = .next (enterFault (.mapperConfigFault (addr + 1) (highByte v)) s1))

/-- `r` reads the word at `addr` in state `s`, low byte first, and then does `post` with it; a fault on either byte
leaves `s`, but for the draw counter, and does not do `post` (20_memory.md R78, 60_exceptions.md R320, R326). -/
def LoadsWord (r : Result) (addr : Word) (s : State) (post : Word → State → State) : Prop :=
  (Readable addr s → Readable (addr + 1) s → ∃ lo hi, readValue addr s = .ok lo ∧
      readValue (addr + 1) s = .ok hi ∧ r = .next (post (wordOfBytes hi lo) (afterReads addr 2 s))) ∧
    (¬ Readable addr s → r = .next (enterFault (.romRangeFault addr) s)) ∧
    (Readable addr s → ¬ Readable (addr + 1) s →
      r = .next (enterFault (.romRangeFault (addr + 1)) (afterReads addr 1 s)))

/-- `r` is one Get of the target and then `post`, or the read-fault at HL. -/
def GetsTarget (r : Result) (t : Target) (s : State) (post : Byte → State → State) : Prop :=
  (TargetReadable t s → ∃ v s1, TargetGives t s v s1 ∧ r = .next (post v s1)) ∧
    (¬ TargetReadable t s → r = .next (enterFault (.romRangeFault (getPair .HL s)) s))

/-- `r` is one Get of the target, one Put of `res` of it, and then `post`; or the read-fault at HL; or, after the
Get, the write-fault at HL, with `post` not done (45_rotate_shift_bit.md R275, 42_alu8.md R201, R203). -/
def UpdatesTarget (r : Result) (t : Target) (s : State) (res : Byte → Byte) (post : Byte → State → State) : Prop :=
  (TargetReadable t s → TargetWritable t s →
      ∃ v s1 s2, TargetGives t s v s1 ∧ TargetTakes t (res v) s1 s2 ∧ r = .next (post v s2)) ∧
    (¬ TargetReadable t s → r = .next (enterFault (.romRangeFault (getPair .HL s)) s)) ∧
    (TargetReadable t s → ¬ TargetWritable t s →
      ∃ v s1, TargetGives t s v s1 ∧ r = .next (enterFault (.mapperConfigFault (getPair .HL s) (res v)) s1))

/-! ### What an instruction leaves alone -/

/-- Two addresses of one byte: the same address, or a WRAM address and its echo (20_memory.md R65). -/
abbrev SameByte (x y : Word) : Prop :=
  x = y ∨ (0xC000 ≤ x.toNat ∧ x.toNat ≤ 0xFDFF ∧ 0xC000 ≤ y.toNat ∧ y.toNat ≤ 0xFDFF ∧
    x.toNat % 0x2000 = y.toNat % 0x2000)

/-- A write to `x` may select another bank and `y` is read through the bank (20_memory.md R74, R77). -/
abbrev SeenThroughBank (x y : Word) : Prop :=
  (0x2000 ≤ x.toNat ∧ x.toNat ≤ 0x3FFF) ∧ (0x4000 ≤ y.toNat ∧ y.toNat ≤ 0x7FFF)

/-- What the execution of an instruction may write besides memory: these registers, these bits of F, and, where true,
SP, PC, IME and `halted`. -/
structure MayWrite where
  regs : List Reg8 := []
  flags : Byte := 0x00
  sp : Bool := false
  pc : Bool := false
  ime : Bool := false
  halted : Bool := false

/-- Every register, flag and control bit that `w` does not name is unchanged, PC among them (`exec` starts with PC
already past the instruction), and so are `status` and the parameters. -/
def KeepsRest (w : MayWrite) (s t : State) : Prop :=
  (∀ r, r ∉ w.regs → getReg r t = getReg r s) ∧ getF t &&& ~~~w.flags = getF s &&& ~~~w.flags ∧
    (w.sp = false → t.sp = s.sp) ∧ (w.pc = false → t.pc = s.pc) ∧
    (w.ime = false → t.ime = s.ime) ∧ (w.halted = false → t.halted = s.halted) ∧
    t.status = s.status ∧ t.params = s.params

/-- Nothing is stored: every byte reads as before (a read of 0xFF01 is a draw, 20_memory.md R69, so it is left out), and
the mapper and the serial buffers are as before. -/
def StoresNothing (s t : State) : Prop :=
  (∀ y : Word, y ≠ 0xFF01 → readValue y t = readValue y s) ∧ t.romBank = s.romBank ∧
    t.mapperMode = s.mapperMode ∧ t.serialLine = s.serialLine ∧ t.serialOut = s.serialOut

/-- Nothing is stored outside the addresses listed: every byte that is none of theirs reads as before; the mapper is as
before unless one of them is a ROM address, the serial buffers unless one of them is 0xFF01. -/
def StoresOnlyAt (addrs : List Word) (s t : State) : Prop :=
  (∀ y : Word, y ≠ 0xFF01 → (∀ x ∈ addrs, ¬ SameByte x y ∧ ¬ SeenThroughBank x y) →
      readValue y t = readValue y s) ∧
    ((∀ x ∈ addrs, 0x8000 ≤ x.toNat) → t.romBank = s.romBank ∧ t.mapperMode = s.mapperMode) ∧
    (0xFF01 ∉ addrs → t.serialLine = s.serialLine ∧ t.serialOut = s.serialOut)

/-- The frame of a form that stores nothing: whenever it completes from a running state. -/
def FrameOf (i : Instr) (w : MayWrite) : Prop :=
  ∀ s t, s.status = .running → exec i s = .next t → t.status = .running → KeepsRest w s t ∧ StoresNothing s t

/-- The frame of a form that stores at `addrs s`, computed from the state it starts in: whenever it completes from a
running state. -/
def StoreFrameOf (i : Instr) (w : MayWrite) (addrs : State → List Word) : Prop :=
  ∀ s t, s.status = .running → exec i s = .next t → t.status = .running →
    KeepsRest w s t ∧ StoresOnlyAt (addrs s) s t

/-- The addresses an instruction stores to, computed in the state it starts in with what its meaning uses. A CALL cc that
is not taken, and an instruction that faults before its store, stores to none of them (40_load8.md, 41_load16_stack.md, 42_alu8.md R201, R203, 44_control.md,
45_rotate_shift_bit.md R275). -/
def storesAt (i : Instr) (s : State) : List Word :=
  match i with
  | .ld_mBC_A => [getPair .BC s]
  | .ld_mDE_A => [getPair .DE s]
  | .ld_mHLi_A | .ld_mHLd_A => [getPair .HL s]
  | .ld_mHL_B | .ld_mHL_C | .ld_mHL_D | .ld_mHL_E | .ld_mHL_H | .ld_mHL_L | .ld_mHL_A => [getPair .HL s]
  | .ld_mHL_d8 _ | .inc_mHL | .dec_mHL => [getPair .HL s]
  | .ldh_ma8_A a8 => [highPage a8]
  | .ld_mC_A => [highPage s.c]
  | .ld_ma16_A a16 => [a16]
  | .ld_ma16_SP a16 => [a16, a16 + 1]
  | .push_BC | .push_DE | .push_HL | .push_AF => [s.sp - 2, s.sp - 1]
  | .call_a16 _ | .call_NZ_a16 _ | .call_Z_a16 _ | .call_NC_a16 _ | .call_C_a16 _ => [s.sp - 2, s.sp - 1]
  | .rst_00 | .rst_08 | .rst_10 | .rst_18 | .rst_20 | .rst_28 | .rst_30 | .rst_38 => [s.sp - 2, s.sp - 1]
  | .rlc_mHL | .rrc_mHL | .rl_mHL | .rr_mHL | .sla_mHL | .sra_mHL | .swap_mHL | .srl_mHL => [getPair .HL s]
  | .res_0_mHL | .res_1_mHL | .res_2_mHL | .res_3_mHL | .res_4_mHL | .res_5_mHL | .res_6_mHL | .res_7_mHL =>
    [getPair .HL s]
  | .set_0_mHL | .set_1_mHL | .set_2_mHL | .set_3_mHL | .set_4_mHL | .set_5_mHL | .set_6_mHL | .set_7_mHL =>
    [getPair .HL s]
  | _ => []

/-- The instructions that write SP, among those that 10_state.md R24 lists. -/
def writesSP (i : Instr) : Bool :=
  match i with
  | .push_BC | .push_DE | .push_HL | .push_AF | .pop_BC | .pop_DE | .pop_HL | .pop_AF => true
  | .call_a16 _ | .call_NZ_a16 _ | .call_Z_a16 _ | .call_NC_a16 _ | .call_C_a16 _ => true
  | .ret | .ret_NZ | .ret_Z | .ret_NC | .ret_C | .reti => true
  | .rst_00 | .rst_08 | .rst_10 | .rst_18 | .rst_20 | .rst_28 | .rst_30 | .rst_38 => true
  | .ld_SP_d16 _ | .ld_SP_HL | .add_SP_e8 _ | .inc_SP | .dec_SP => true
  | _ => false

end Sys2Proof.Machine
end

