-- ==== Sys2Proof/Certificates/Slice0/Obligations.lean ====
section
/-! DEFINITION. The statements for the provers: what the spec's rules say the core does. Each docstring names the rules;
where a clause rests on a decision the spec marks as its own (D<n> of spec/92_eei_decisions.md) or on a choice of this
model (an entry of notes/assumptions/), it says so. -/

open Sys2Proof Sys2Proof.Machine

/-! ### Encoding -/

/-- Decoding what the encoder writes gives every well-formed instruction back, with every immediate, whatever follows it
(30_encoding.md R101, R111, R116, R117). -/
def Obligations.DecodeReadsBackEncode : Prop :=
  ∀ i : Instr, i.wf = true → ∀ rest : List Byte, decode (encode i ++ rest) = .ok (i, rest)

/-- Bytes have one meaning: what decodes is well formed, and its encoding is exactly the bytes taken (30_encoding.md
R111, R116 to R119). -/
def Obligations.EncodeReadsBackDecode : Prop :=
  ∀ (bytes rest : List Byte) (i : Instr), decode bytes = .ok (i, rest) → i.wf = true ∧ encode i ++ rest = bytes

/-- Bytes written out from the spec's encodings decode to the instructions they stand for, one or two of each family
(95_test_vectors.md sections 2 and 3). Two clauses are choices: that STOP is two bytes long is the spec's decision D20
(log entry 14), and that 0xD3 decodes to `illegal` is this model's own reading (log entry 8, DEDUCED), since the spec says
that the byte encodes no instruction and that Decode raises DecodeFault on it (30_encoding.md R112, decision D1). -/
def Obligations.SampleWordsDecode : Prop :=
  decode [0x3E, 0x05] = .ok (.ld_A_d8 0x05, []) ∧
    decode [0x41, 0xFF] = .ok (.ld_B_C, [0xFF]) ∧
    decode [0x08, 0xFF, 0xDF] = .ok (.ld_ma16_SP 0xDFFF, []) ∧
    decode [0xF5] = .ok (.push_AF, []) ∧
    decode [0x8B] = .ok (.adc_A_E, []) ∧
    decode [0xDE, 0xFF] = .ok (.sbc_A_d8 0xFF, []) ∧
    decode [0x39] = .ok (.add_HL_SP, []) ∧
    decode [0xCD, 0x34, 0x12] = .ok (.call_a16 0x1234, []) ∧
    decode [0x20, 0xFC] = .ok (.jr_NZ_e8 0xFC, []) ∧
    decode [0xCB, 0x19] = .ok (.rr_C, []) ∧
    decode [0xCB, 0x7C] = .ok (.bit_7_H, []) ∧
    decode [0xCB, 0xDE] = .ok (.set_3_mHL, []) ∧
    decode [0x10, 0x00] = .ok (.stop 0x00, []) ∧
    decode [0xD3] = .ok (.illegal 0xD3, [])

/-- The first byte alone decides how many immediate bytes follow (30_encoding.md R114, R115). Two parts are choices: that
0x10 (STOP) has one byte after it is the spec's decision D20 (log entry 14), and that none follows an ILLEGAL byte is this
model's reading (log entry 8, DEDUCED), since R115 speaks of legal opcodes alone. -/
def Obligations.FirstByteFixesLength : Prop :=
  (∀ op : Byte, op ≠ 0xCB →
    (bytesAfter op = 1 ↔ op ∈ ([0x06, 0x0E, 0x10, 0x16, 0x18, 0x1E, 0x20, 0x26, 0x28, 0x2E, 0x30, 0x36, 0x38, 0x3E,
      0xC6, 0xCE, 0xD6, 0xDE, 0xE0, 0xE6, 0xE8, 0xEE, 0xF0, 0xF6, 0xF8, 0xFE] : List Byte)) ∧
    (bytesAfter op = 2 ↔ op ∈ ([0x01, 0x08, 0x11, 0x21, 0x31, 0xC2, 0xC3, 0xC4, 0xCA, 0xCC, 0xCD, 0xD2, 0xD4, 0xDA,
      0xDC, 0xEA, 0xFA] : List Byte)) ∧
    bytesAfter op ≤ 2) ∧
    bytesAfter 0xCB = 1

/-! ### The step -/

/-- When the bytes at PC decode to an instruction, one step is its execution with PC past its bytes, the addresses and PC
wrapping (30_encoding.md R100, R111, 10_state.md R25). The reads of decode change nothing but the model's draw counter, and
only at 0xFF01 (log entry 3). -/
def Obligations.StepRunsDecodedInstruction : Prop :=
  ∀ (s : State) (op b1 b2 : Byte) (i : Instr) (rest : List Byte), Running s →
    readValue s.pc s = .ok op → (op = 0xCB ∨ op ∉ s.params.unimplementedOpcodes) →
    op ∉ ([0xD3, 0xDB, 0xDD, 0xE3, 0xE4, 0xEB, 0xEC, 0xED, 0xF4, 0xFC, 0xFD] : List Byte) →
    (1 ≤ bytesAfter op → readValue (s.pc + 1) s = .ok b1) →
    (2 ≤ bytesAfter op → readValue (s.pc + 2) s = .ok b2) →
    decode [op, b1, b2] = .ok (i, rest) →
    step s = exec i { afterReads s.pc (1 + bytesAfter op) s with pc := s.pc + BitVec.ofNat 16 (1 + bytesAfter op) }

/-- Faults of Decode: one of the eleven ILLEGAL bytes, or an opcode byte in `unimplemented_opcodes`, raises DecodeFault with
its address; the prefix 0xCB is never refused, whatever that set holds; a byte past the image raises RomRangeFault; and PC
stays at the instruction (30_encoding.md R111 to R114, 60_exceptions.md R320, R321, R323; the values at which they arise
are decisions D1 and D12; the parameter's set may not hold 0xCB, and that this model passes over it there is log entry 8). -/
def Obligations.DecodeFaultsLeavePC : Prop :=
  (∀ (s : State) (op : Byte), Running s → readValue s.pc s = .ok op →
    (op ∈ ([0xD3, 0xDB, 0xDD, 0xE3, 0xE4, 0xEB, 0xEC, 0xED, 0xF4, 0xFC, 0xFD] : List Byte) ∨
      (op ≠ 0xCB ∧ op ∈ s.params.unimplementedOpcodes)) →
    step s = .next (enterFault (.decodeFault s.pc op) (afterRead s.pc s))) ∧
  (∀ (s : State) (op2 : Byte) (i : Instr), Running s → readValue s.pc s = .ok 0xCB →
    readValue (s.pc + 1) s = .ok op2 → decode [0xCB, op2] = .ok (i, []) →
    step s = exec i { afterReads s.pc 2 s with pc := s.pc + 2 }) ∧
  (∀ s : State, Running s → ¬ Readable s.pc s → step s = .next (enterFault (.romRangeFault s.pc) s)) ∧
  (∀ (s : State) (op : Byte), Running s → readValue s.pc s = .ok op →
    (op = 0xCB ∨ op ∉ s.params.unimplementedOpcodes) → 1 ≤ bytesAfter op → ¬ Readable (s.pc + 1) s →
    step s = .next (enterFault (.romRangeFault (s.pc + 1)) (afterReads s.pc 1 s))) ∧
  (∀ (s : State) (op : Byte), Running s → readValue s.pc s = .ok op →
    (op = 0xCB ∨ op ∉ s.params.unimplementedOpcodes) → bytesAfter op = 2 → Readable (s.pc + 1) s →
    ¬ Readable (s.pc + 2) s →
    step s = .next (enterFault (.romRangeFault (s.pc + 2)) (afterReads s.pc 2 s)))

/-- Taking a fault, the core's only exception, writes `status` and nothing else: no register is saved, no vector taken
(60_exceptions.md R320, R328; decisions D22, D27); the cause codes (R321 to R324, decision D26). -/
def Obligations.TakingAFaultWritesStatusAlone : Prop :=
  ∀ (f : FaultRecord) (s : State), enterFault f s = { s with status := .faulted f } ∧
    causeCode f = (match f with
      | .decodeFault _ _ => 1
      | .mapperConfigFault _ _ => 2
      | .romRangeFault _ => 3
      | .cartridgeTypeFault _ => 4)

/-- A faulted state has no next state, so it never runs again (10_state.md R34, 60_exceptions.md R320; that it has none is
the spec's decision D22). That the step then answers the outcome `fault` with the record is this model's way of saying it
(log entry 4, DEDUCED). -/
def Obligations.FaultedStateHasNoNextState : Prop :=
  ∀ (s : State) (f : FaultRecord), s.status = .faulted f →
    step s = .fault (.stopped f) ∧ ∀ t, step s ≠ .next t

/-- A step taken while halted changes no state and costs 4 (46_processor_control.md R307; decision D19). -/
def Obligations.HaltedStepChangesNothing : Prop :=
  ∀ s : State, s.status = .running → s.halted = true → step s = .next s ∧ stepCost s = some 4

/-- Every step from a running state answers a next state: no instruction and no fetch stops the model (30_encoding.md
R100, 60_exceptions.md R320, R325). That a step which raises a fault itself answers a next state, the faulted one, is this
model's reading (log entry 4, DEDUCED), which R34, R320 and decision D22 leave open. -/
def Obligations.RunningStepAlwaysAnswersNext : Prop :=
  ∀ s : State, s.status = .running → ∃ t, step s = .next t

/-- Every step keeps the invariant: F's low nibble stays 0 (10_state.md R21), the bank stays legal and never 0 (R39),
and the RAM arrays keep their sizes and their canonical form (R35, R36, R40). -/
def Obligations.StepKeepsInvariant : Prop :=
  ∀ s t : State, s.Inv → step s = .next t → t.Inv

/-- The reset state meets the invariant (10_state.md R42). -/
def Obligations.ResetMeetsInvariant : Prop := State.reset.Inv

/-- No instruction writes the ROM image or a parameter: a write to a ROM address goes to the mapper (10_state.md R38,
20_memory.md R72). -/
def Obligations.StepNeverWritesRom : Prop :=
  (∀ s t : State, step s = .next t → t.params = s.params) ∧
    ∀ (addr : Word) (v : Byte) (s : State), addr.toNat ≤ 0x7FFF → writeByte addr v s = mapperWrite addr v s

/-- No rule reads IME, the mapper's mode or the serial buffers: two states that agree on everything else step to states
that agree on everything else (10_state.md R32, R41, 20_memory.md R77). Two parts are the spec's own choices: that nothing
reads IME is decision D17 (log entry 11), and that the mode is not read under `banked` is decision D9 (log entry 15). -/
def Obligations.UnreadStateIsNeverRead : Prop :=
  ∀ s s' t : State, forgetUnread s = forgetUnread s' → step s = .next t →
    ∃ t', step s' = .next t' ∧ forgetUnread t' = forgetUnread t

/-- The cycle cost a step returns is one constant per opcode: 4 for NOP and 12 for CALL a16 under every parameter, the
primary table's for every other primary instruction, 1 plus the inner table's for a prefixed one; a step that faults
returns none (70_reset_and_hazards.md R370, 60_exceptions.md R320; that the other values are parameters is decision D21,
and that an entry past the end of a table shorter than 256 entries costs 0 is log entry 17). -/
def Obligations.StepReturnsTheCycleCost : Prop :=
  ∀ (s t : State) (op : Byte), Running s → step s = .next t → readValue s.pc s = .ok op →
    (t.status ≠ .running → stepCost s = none) ∧
    (t.status = .running → op = 0x00 → stepCost s = some 4) ∧
    (t.status = .running → op = 0xCD → stepCost s = some 12) ∧
    (t.status = .running → op ≠ 0x00 → op ≠ 0xCD → op ≠ 0xCB →
      stepCost s = some (s.params.cyclesPrimary.getD op.toNat 0)) ∧
    (∀ op2, t.status = .running → op = 0xCB → readValue (s.pc + 1) s = .ok op2 →
      stepCost s = some (1 + s.params.cyclesCbInner.getD op2.toNat 0))

/-- The default cycle cost of every instruction, as its own rule gives it beside its encoding (70_reset_and_hazards.md
R371; the tables are decision D21, but for NOP and CALL a16): both tables have 256 entries, and an extended instruction
costs 1 plus its inner entry. -/
def Obligations.DefaultCycleCosts : Prop :=
  Params.default.cyclesPrimary.length = 256 ∧ Params.default.cyclesCbInner.length = 256 ∧
    ∀ (d r : Reg8) (t : Target) (o : AluOp) (k : RotOp) (y : Bit3) (p : Rp) (q : Rp2) (cc : Cond) (n : Byte) (w : Word),
      let cost : Instr → Nat := fun i =>
        match encode i with
        | [0xCB, op2] => 1 + Params.default.cyclesCbInner.getD op2.toNat 0
        | op :: _ => Params.default.cyclesPrimary.getD op.toNat 0
        | [] => 0
      let slow : Nat := if t = .mHL then 8 else 0
      (cost (.ldRegReg d r) = 4 ∧ cost (.ldRegMem d) = 8 ∧ cost (.ldMemReg r) = 8 ∧ cost (.ldRegImm d n) = 8 ∧
        cost (.ld_mHL_d8 n) = 12 ∧ cost .ld_A_mBC = 8 ∧ cost .ld_A_mDE = 8 ∧ cost .ld_mBC_A = 8 ∧ cost .ld_mDE_A = 8 ∧
        cost .ld_mHLi_A = 8 ∧ cost .ld_A_mHLi = 8 ∧ cost .ld_mHLd_A = 8 ∧ cost .ld_A_mHLd = 8 ∧
        cost (.ldh_ma8_A n) = 12 ∧ cost (.ldh_A_ma8 n) = 12 ∧ cost .ld_mC_A = 8 ∧ cost .ld_A_mC = 8 ∧
        cost (.ld_ma16_A w) = 16 ∧ cost (.ld_A_ma16 w) = 16) ∧
      (cost (.ldPairImm p w) = 12 ∧ cost (.ld_ma16_SP w) = 20 ∧ cost .ld_SP_HL = 8 ∧ cost (.push q) = 16 ∧
        cost (.pop q) = 12) ∧
      (cost (.alu o (.reg r)) = 4 ∧ cost (.alu o .mHL) = 8 ∧ cost (.aluImm o n) = 8 ∧ cost (.inc t) = 4 + slow ∧
        cost (.dec t) = 4 + slow ∧ cost .daa = 4 ∧ cost .cpl = 4) ∧
      (cost (.addHL p) = 8 ∧ cost (.incPair p) = 8 ∧ cost (.decPair p) = 8 ∧ cost (.add_SP_e8 n) = 16 ∧
        cost (.ld_HL_SPe8 n) = 12) ∧
      (cost (.jp_a16 w) = 12 ∧ cost (.jpCond cc w) = 12 ∧ cost .jp_HL = 4 ∧ cost (.jr_e8 n) = 8 ∧
        cost (.jrCond cc n) = 8 ∧ cost (.call_a16 w) = 12 ∧ cost (.callCond cc w) = 12 ∧ cost .ret = 8 ∧
        cost (.retCond cc) = 8 ∧ cost .reti = 8 ∧ cost (.rst y) = 32) ∧
      (cost .rlca = 4 ∧ cost .rla = 4 ∧ cost .rrca = 4 ∧ cost .rra = 4 ∧ cost (.rot k t) = 9 + slow ∧
        cost (.bit y t) = 9 + slow ∧ cost (.res y t) = 9 + slow ∧ cost (.set y t) = 9 + slow) ∧
      (cost .nop = 4 ∧ cost .halt = 4 ∧ cost (.stop n) = 4 ∧ cost .di = 4 ∧ cost .ei = 4 ∧ cost .scf = 4 ∧
        cost .ccf = 4)

/-! ### Reset -/

/-- The table of reset values, for any parameters (10_state.md R42: PC, SP, F and B to L are the source's; A, IME, IE,
the mapper, `halted`, `status` and the serial buffers are decisions D2, D3, D4, D6, D19, D22, D15; RAM is OPEN, D5 and
D11); and reset has the defaults of 00_scope.md R8 (decisions D1, D2, D8, D9, D11, D13, D19), with a cartridge of 0x8000
zero bytes and type code 0x01 (log entry 2) and all of RAM 0x00 (log entry 1). The cycle tables are DefaultCycleCosts. -/
def Obligations.ResetTable : Prop :=
  (∀ p : Params,
    let s := State.initial p
    s.pc = 0x0100 ∧ s.sp = 0xFFFE ∧ s.f = 0xB0 ∧ (∀ r, r ≠ .A → getReg r s = 0x00) ∧
      s.a = p.resetA ∧ s.ime = false ∧ s.halted = false ∧ s.status = .running ∧ s.ie = 0x00 ∧
      s.mapperMode = .rom16M_ram8K ∧ s.romBank = 0x01 ∧ s.serialLine = [] ∧ s.serialOut = [] ∧
      s.wram = p.wramInit ∧ s.hram = p.hramInit ∧ s.cartRam = p.cartRamInit ∧ s.params = p) ∧
    State.reset = State.initial Params.default ∧ State.reset.a = 0x00 ∧
    (let p := State.reset.params
     p.romReadMode = .flat ∧ p.romBankMask = 0x03 ∧ p.cartRamMode = .stub ∧ p.haltMode = .stall ∧
        p.unimplementedOpcodes = [] ∧ p.resetA = 0x00 ∧
        (∀ code : Byte, code ∈ p.mapperForType ↔ code = 0x01 ∨ code = 0x02 ∨ code = 0x03) ∧
        p.cartTypeCode = 0x01 ∧ p.romLen = 0x8000 ∧ ∀ k : Nat, Memory.read p.rom k = 0x00) ∧
    ∀ k : Nat, Memory.read State.reset.wram k = 0x00 ∧ Memory.read State.reset.hram k = 0x00 ∧
      Memory.read State.reset.cartRam k = 0x00

/-- Construction picks the mapper by the cartridge-type code, or fails with CartridgeTypeFault before any instruction
executes; a core it answers is running at 0x0100 (70_reset_and_hazards.md R350, R351, 60_exceptions.md R324; the codes
of the default map are decision D13). -/
def Obligations.ConstructionPicksMapper : Prop :=
  (∀ p : Params, p.cartTypeCode ∈ p.mapperForType → construct p = .ok (State.initial p)) ∧
    (∀ p : Params, p.cartTypeCode ∉ p.mapperForType → construct p = .error (.cartridgeTypeFault p.cartTypeCode)) ∧
    ∀ code : Byte, (∃ s, construct { Params.default with cartTypeCode := code } = .ok s) ↔
      code = 0x01 ∨ code = 0x02 ∨ code = 0x03

/-! ### Memory -/

/-- Every address lies in exactly the region its row of the table gives, ranges inclusive, 0xFF01 in the serial row
(20_memory.md R61; the inclusive reading is decision D24). -/
def Obligations.RegionTable : Prop :=
  ∀ x : Word,
    (region x = .ie ↔ x.toNat = 0xFFFF) ∧
    (region x = .hram ↔ 0xFF80 ≤ x.toNat ∧ x.toNat ≤ 0xFFFE) ∧
    (region x = .unusableUpper ↔ 0xFF4C ≤ x.toNat ∧ x.toNat ≤ 0xFF7F) ∧
    (region x = .serial ↔ x.toNat = 0xFF01) ∧
    (region x = .io ↔ 0xFF00 ≤ x.toNat ∧ x.toNat ≤ 0xFF4B ∧ x.toNat ≠ 0xFF01) ∧
    (region x = .unusableLower ↔ 0xFEA0 ≤ x.toNat ∧ x.toNat ≤ 0xFEFF) ∧
    (region x = .oam ↔ 0xFE00 ≤ x.toNat ∧ x.toNat ≤ 0xFE9F) ∧
    (region x = .echo ↔ 0xE000 ≤ x.toNat ∧ x.toNat ≤ 0xFDFF) ∧
    (region x = .wram ↔ 0xC000 ≤ x.toNat ∧ x.toNat ≤ 0xDFFF) ∧
    (region x = .cartRam ↔ 0xA000 ≤ x.toNat ∧ x.toNat ≤ 0xBFFF) ∧
    (region x = .vram ↔ 0x8000 ≤ x.toNat ∧ x.toNat ≤ 0x9FFF) ∧
    (region x = .romBank ↔ 0x4000 ≤ x.toNat ∧ x.toNat ≤ 0x7FFF) ∧
    (region x = .romFixed ↔ x.toNat ≤ 0x3FFF)

/-- ROM reads: the fixed bank reads the image at the address; the window reads it at the address under `flat`, through
the bank under `banked`; an index past the image raises RomRangeFault with the address (20_memory.md R63, R71, R77;
decisions D9 and D12). -/
def Obligations.RomReads : Prop :=
  ∀ (x : Word) (s : State) (idx : Nat), x.toNat ≤ 0x7FFF →
    idx = (if x.toNat ≤ 0x3FFF ∨ s.params.romReadMode = .flat then x.toNat
      else s.romBank.toNat * 0x4000 + (x.toNat - 0x4000)) →
    (idx < s.params.romLen → readByte x s = .done (Memory.read s.params.rom idx) s) ∧
    (s.params.romLen ≤ idx → readByte x s = .raised (.romRangeFault x) s)

/-- Work RAM and its echo share bytes: index k at 0xC000 + k, and at 0xE000 + k below 0x1E00; a byte written through
either is read back through both; indices 0x1E00 to 0x1FFF have no echo (20_memory.md R64, R65). The second clause asks
that WRAM be canonical, which every step keeps (StepKeepsInvariant). -/
def Obligations.WorkRamAndEcho : Prop :=
  (∀ (k : Nat) (v : Byte) (s : State) (x : Word), k < 0x2000 →
    (x.toNat = 0xC000 + k ∨ (x.toNat = 0xE000 + k ∧ k < 0x1E00)) →
    readByte x s = .done (Memory.read s.wram k) s ∧
    writeByte x v s = .done () { s with wram := Memory.write s.wram k v }) ∧
  (∀ (k : Nat) (v : Byte) (s t : State) (x y : Word), k < 0x1E00 →
    (x.toNat = 0xC000 + k ∧ y.toNat = 0xE000 + k ∨ x.toNat = 0xE000 + k ∧ y.toNat = 0xC000 + k) →
    Memory.wf s.wram = true → writeByte x v s = .done () t → readByte y t = .done v t) ∧
  ∀ (k : Nat) (v : Byte) (s t : State) (x y : Word), 0x1E00 ≤ k → k < 0x2000 → x.toNat = 0xC000 + k → y ≠ x →
    writeByte x v s = .done () t → readValue y t = readValue y s

/-- Stub regions read 0x00, and a write to them changes no state (20_memory.md R66). -/
def Obligations.StubRegions : Prop :=
  ∀ (x : Word) (v : Byte) (s : State),
    ((0x8000 ≤ x.toNat ∧ x.toNat ≤ 0x9FFF) ∨ (0xFE00 ≤ x.toNat ∧ x.toNat ≤ 0xFE9F) ∨
      (0xFEA0 ≤ x.toNat ∧ x.toNat ≤ 0xFEFF) ∨ (0xFF00 ≤ x.toNat ∧ x.toNat ≤ 0xFF4B ∧ x.toNat ≠ 0xFF01) ∨
      (0xFF4C ≤ x.toNat ∧ x.toNat ≤ 0xFF7F)) →
    readByte x s = .done 0x00 s ∧ writeByte x v s = .done () s

/-- High RAM is storage: a read gives the byte, a write sets it (20_memory.md R67). -/
def Obligations.HighRam : Prop :=
  ∀ (k : Nat) (v : Byte) (s : State) (x : Word), k < 127 → x.toNat = 0xFF80 + k →
    readByte x s = .done (Memory.read s.hram k) s ∧
    writeByte x v s = .done () { s with hram := Memory.write s.hram k v }

/-- The byte at 0xFFFF is the IE register, all 8 bits of which are stored and read back (20_memory.md R70, 10_state.md
R37; that bits 7 to 5 are stored is decision D4). -/
def Obligations.InterruptEnableByte : Prop :=
  ∀ (v : Byte) (s : State), readByte 0xFFFF s = .done s.ie s ∧ writeByte 0xFFFF v s = .done () { s with ie := v }

/-- The serial port: a write of 0xFF01 appends the byte to the line, or for 0x0A moves the line to the finished lines and
empties it (20_memory.md R68, decision D15); a read never faults, gives the free value of the next draw and changes
nothing but the model's draw counter (R69, decision D14; the counter is log entry 3). -/
def Obligations.SerialPort : Prop :=
  ∀ (v : Byte) (s : State),
    (v ≠ 0x0A → writeByte 0xFF01 v s = .done () { s with serialLine := s.serialLine ++ [v] }) ∧
    (v = 0x0A → writeByte 0xFF01 v s =
      .done () { s with serialOut := s.serialOut ++ [s.serialLine], serialLine := [] }) ∧
    readByte 0xFF01 s = .done (Config.serialRead s.draws) { s with draws := s.draws + 1 }

/-- Mapper writes: 0x2000-0x3FFF selects the bank, masked and then 0 becomes 1; 0x6000-0x7FFF selects the mode by bit 0;
the rest of 0x0000-0x7FFF raises MapperConfigFault and changes nothing (20_memory.md R74, R75, R76; decisions D7, D8,
D10). -/
def Obligations.MapperWrites : Prop :=
  ∀ (x : Word) (v : Byte) (s : State),
    (0x2000 ≤ x.toNat → x.toNat ≤ 0x3FFF → writeByte x v s = .done () { s with
      romBank := if v &&& s.params.romBankMask = 0x00 then 0x01 else v &&& s.params.romBankMask }) ∧
    (0x6000 ≤ x.toNat → x.toNat ≤ 0x7FFF → writeByte x v s = .done () { s with
      mapperMode := if v.toNat % 2 = 0 then .rom16M_ram8K else .rom4M_ram32K }) ∧
    (x.toNat ≤ 0x1FFF ∨ (0x4000 ≤ x.toNat ∧ x.toNat ≤ 0x5FFF) →
      writeByte x v s = .raised (.mapperConfigFault x v) s)

/-- Cartridge RAM: under `stub` it reads 0x00 and discards writes; under `backed(8192)` it is storage (20_memory.md R73;
decision D11). -/
def Obligations.CartridgeRam : Prop :=
  ∀ (k : Nat) (v : Byte) (s : State) (x : Word), k < 0x2000 → x.toNat = 0xA000 + k →
    (s.params.cartRamMode = .stub → readByte x s = .done 0x00 s ∧ writeByte x v s = .done () s) ∧
    (s.params.cartRamMode = .backed8K → readByte x s = .done (Memory.read s.cartRam k) s ∧
      writeByte x v s = .done () { s with cartRam := Memory.write s.cartRam k v })

/-- A 16-bit access is two byte accesses, the low byte at `addr` first, then the high byte at `addr + 1`, which wraps;
a fault on the first leaves the second undone (20_memory.md R78, R79, R80, R81; the order is decision D16). -/
def Obligations.WordAccessesAreTwoByteAccesses : Prop :=
  ∀ (x v : Word) (s : State),
    (∀ lo hi s1 s2, readByte x s = .done lo s1 → readByte (x + 1) s1 = .done hi s2 →
      ∃ w : Word, readWord x s = .done w s2 ∧ w.toNat = hi.toNat * 256 + lo.toNat) ∧
    (∀ s1 s2, writeByte x (BitVec.ofNat 8 v.toNat) s = .done () s1 →
      writeByte (x + 1) (BitVec.ofNat 8 (v.toNat / 256)) s1 = .done () s2 → writeWord x v s = .done () s2) ∧
    (∀ f s1, writeByte x (BitVec.ofNat 8 v.toNat) s = .raised f s1 → writeWord x v s = .raised f s1)

/-- A read returns the value of the most recent write to its byte, backed cartridge RAM among them, and a write changes
what no other byte reads (20_memory.md R73, R85; canonical RAM, which StepKeepsInvariant keeps). A write to
0x2000-0x3FFF may change the bank through which 0x4000-0x7FFF is read (R74, R77). The two modes of cartridge RAM are
decision D11. -/
def Obligations.StoreIsReadBackAndChangesNothingElse : Prop :=
  ∀ (x : Word) (v : Byte) (s t : State), s.Inv → writeByte x v s = .done () t →
    (∀ y, Stored x s → SameByte x y → readValue y t = .ok v) ∧
    (∀ y, ¬ SameByte x y → ¬ SeenThroughBank x y → readValue y t = readValue y s)

/-- Each register name reads and writes its own field and no other; register pairs are views of two 8-bit registers, high
half first; writing a pair writes both halves, and AF drops the low nibble of F; SP is a register of its own (10_state.md
R20, R21, R22, R23). -/
def Obligations.RegistersAndPairs : Prop :=
  ∀ (s : State) (v : Word) (b : Byte),
    ((getPair .AF s).toNat = s.a.toNat * 256 + s.f.toNat / 16 * 16 ∧
      (getPair .BC s).toNat = s.b.toNat * 256 + s.c.toNat ∧
      (getPair .DE s).toNat = s.d.toNat * 256 + s.e.toNat ∧
      (getPair .HL s).toNat = s.h.toNat * 256 + s.l.toNat ∧ getPair .SP s = s.sp) ∧
    (setPair .BC v s = { s with b := BitVec.ofNat 8 (v.toNat / 256), c := BitVec.ofNat 8 v.toNat } ∧
      setPair .DE v s = { s with d := BitVec.ofNat 8 (v.toNat / 256), e := BitVec.ofNat 8 v.toNat } ∧
      setPair .HL v s = { s with h := BitVec.ofNat 8 (v.toNat / 256), l := BitVec.ofNat 8 v.toNat } ∧
      setPair .AF v s =
        { s with a := BitVec.ofNat 8 (v.toNat / 256), f := BitVec.ofNat 8 (v.toNat / 16 * 16) } ∧
      setPair .SP v s = { s with sp := v }) ∧
    (getReg .A s = s.a ∧ getReg .B s = s.b ∧ getReg .C s = s.c ∧ getReg .D s = s.d ∧ getReg .E s = s.e ∧
      getReg .H s = s.h ∧ getReg .L s = s.l) ∧
    (setReg .A b s = { s with a := b } ∧ setReg .B b s = { s with b := b } ∧ setReg .C b s = { s with c := b } ∧
      setReg .D b s = { s with d := b } ∧ setReg .E b s = { s with e := b } ∧ setReg .H b s = { s with h := b } ∧
      setReg .L b s = { s with l := b }) ∧
    ∀ r q : Reg8, getReg q (setReg r b s) = if q = r then b else getReg q s

/-! ### 8-bit loads -/

/-- `LD r,r'` copies a register and `LD r,d8` loads the immediate; nothing else changes (40_load8.md R140, R143). -/
def Obligations.RegisterAndImmediateLoads : Prop :=
  ∀ (d r : Reg8) (n : Byte) (s : State),
    (encode (.ldRegReg d r) = [0x40 ||| d.code <<< 3 ||| r.code] ∧
      exec (.ldRegReg d r) s = .next (setReg d (getReg r s) s)) ∧
    (encode (.ldRegImm d n) = [0x06 ||| d.code <<< 3, n] ∧ exec (.ldRegImm d n) s = .next (setReg d n s))

/-- The loads from memory load the byte at their address, or raise its read-fault; the high-page forms never fault
(40_load8.md R141, R145, R146, R154, R156, R158). -/
def Obligations.LoadsFromMemory : Prop :=
  ∀ (d : Reg8) (a8 : Byte) (a16 : Word) (s : State),
    (encode (.ldRegMem d) = [0x46 ||| d.code <<< 3] ∧
      LoadsByte (exec (.ldRegMem d) s) d (wordOfBytes s.h s.l) s) ∧
    (encode .ld_A_mBC = [0x0A] ∧ LoadsByte (exec .ld_A_mBC s) .A (wordOfBytes s.b s.c) s) ∧
    (encode .ld_A_mDE = [0x1A] ∧ LoadsByte (exec .ld_A_mDE s) .A (wordOfBytes s.d s.e) s) ∧
    (encode (.ldh_A_ma8 a8) = [0xF0, a8] ∧ Readable (wordOfBytes 0xFF a8) s ∧
      LoadsByte (exec (.ldh_A_ma8 a8) s) .A (wordOfBytes 0xFF a8) s) ∧
    (encode .ld_A_mC = [0xF2] ∧ Readable (wordOfBytes 0xFF s.c) s ∧
      LoadsByte (exec .ld_A_mC s) .A (wordOfBytes 0xFF s.c) s) ∧
    (encode (.ld_A_ma16 a16) = [0xFA, lowByte a16, highByte a16] ∧ LoadsByte (exec (.ld_A_ma16 a16) s) .A a16 s)

/-- The stores store their byte at their address, or raise its write-fault; the high-page forms never fault
(40_load8.md R142, R144, R147, R148, R153, R155, R157). -/
def Obligations.StoresToMemory : Prop :=
  ∀ (r : Reg8) (n a8 : Byte) (a16 : Word) (s : State),
    (encode (.ldMemReg r) = [0x70 ||| r.code] ∧
      StoresByte (exec (.ldMemReg r) s) (wordOfBytes s.h s.l) (getReg r s) s) ∧
    (encode (.ld_mHL_d8 n) = [0x36, n] ∧ StoresByte (exec (.ld_mHL_d8 n) s) (wordOfBytes s.h s.l) n s) ∧
    (encode .ld_mBC_A = [0x02] ∧ StoresByte (exec .ld_mBC_A s) (wordOfBytes s.b s.c) s.a s) ∧
    (encode .ld_mDE_A = [0x12] ∧ StoresByte (exec .ld_mDE_A s) (wordOfBytes s.d s.e) s.a s) ∧
    (encode (.ldh_ma8_A a8) = [0xE0, a8] ∧ Writable (wordOfBytes 0xFF a8) ∧
      StoresByte (exec (.ldh_ma8_A a8) s) (wordOfBytes 0xFF a8) s.a s) ∧
    (encode .ld_mC_A = [0xE2] ∧ Writable (wordOfBytes 0xFF s.c) ∧
      StoresByte (exec .ld_mC_A s) (wordOfBytes 0xFF s.c) s.a s) ∧
    (encode (.ld_ma16_A a16) = [0xEA, lowByte a16, highByte a16] ∧ StoresByte (exec (.ld_ma16_A a16) s) a16 s.a s)

/-- The loads and stores that step HL: the access is at the old HL, HL then moves by one, wrapping, and a fault leaves it
as it was (40_load8.md R149, R150, R151, R152). -/
def Obligations.LoadsAndStoresThatStepHL : Prop :=
  ∀ (s : State) (hl : Word), hl = wordOfBytes s.h s.l →
    (encode .ld_mHLi_A = [0x22] ∧ encode .ld_A_mHLi = [0x2A] ∧ encode .ld_mHLd_A = [0x32] ∧
      encode .ld_A_mHLd = [0x3A]) ∧
    (Writable hl → ∃ t, writeByte hl s.a s = .done () t ∧
      exec .ld_mHLi_A s = .next { t with h := highByte (hl + 1), l := lowByte (hl + 1) } ∧
      exec .ld_mHLd_A s = .next { t with h := highByte (hl - 1), l := lowByte (hl - 1) }) ∧
    (¬ Writable hl → exec .ld_mHLi_A s = .next (enterFault (.mapperConfigFault hl s.a) s) ∧
      exec .ld_mHLd_A s = .next (enterFault (.mapperConfigFault hl s.a) s)) ∧
    (Readable hl s → ∃ v, readValue hl s = .ok v ∧
      exec .ld_A_mHLi s =
        .next { afterRead hl s with a := v, h := highByte (hl + 1), l := lowByte (hl + 1) } ∧
      exec .ld_A_mHLd s =
        .next { afterRead hl s with a := v, h := highByte (hl - 1), l := lowByte (hl - 1) }) ∧
    (¬ Readable hl s → exec .ld_A_mHLi s = .next (enterFault (.romRangeFault hl) s) ∧
      exec .ld_A_mHLd s = .next (enterFault (.romRangeFault hl) s))

/-! ### 16-bit loads and the stack -/

/-- `LD rr,d16` loads BC, DE, HL or SP and `LD SP,HL` copies HL into SP; nothing else changes (41_load16_stack.md R170,
R172). -/
def Obligations.SixteenBitLoads : Prop :=
  ∀ (p : Rp) (n : Word) (s : State),
    (encode (.ldPairImm p n) = [0x01 ||| p.code <<< 4, lowByte n, highByte n] ∧
      exec (.ldPairImm p n) s = .next (setPair p.pair n s)) ∧
    (encode .ld_SP_HL = [0xF9] ∧ exec .ld_SP_HL s = .next { s with sp := wordOfBytes s.h s.l })

/-- `LD (a16),SP` stores SP, low byte first; PUSH decrements SP by 2 and then stores the pair there, low byte first; POP
reads the word at SP and then increments SP by 2; `POP AF` drops the low nibble of F (41_load16_stack.md R171, R173,
R174, R175, R176; the order of the two bytes is decision D16, the mask decision D25). -/
def Obligations.StoreSPAndPushAndPop : Prop :=
  ∀ (n : Word) (q : Rp2) (s : State),
    (encode (.ld_ma16_SP n) = [0x08, lowByte n, highByte n] ∧ StoresWord (exec (.ld_ma16_SP n) s) n s.sp s id) ∧
    (encode (.push q) = [0xC5 ||| q.code <<< 4] ∧
      StoresWord (exec (.push q) s) (s.sp - 2) (getPair q.pair s) { s with sp := s.sp - 2 } id) ∧
    (encode (.pop q) = [0xC1 ||| q.code <<< 4] ∧
      LoadsWord (exec (.pop q) s) s.sp s fun v t => setPair q.pair v { t with sp := s.sp + 2 })

/-- PUSH followed by POP of the same pair restores every register and SP, wherever both stack bytes are storage
(41_load16_stack.md R173, R176; canonical RAM, which StepKeepsInvariant keeps; that cartridge RAM may be storage is
decision D11). -/
def Obligations.PushThenPopRestores : Prop :=
  ∀ (q : Rp2) (s : State), s.Inv → Stored (s.sp - 2) s → Stored (s.sp - 1) s →
    ∃ t u, exec (.push q) s = .next t ∧ t.sp = s.sp - 2 ∧ exec (.pop q) t = .next u ∧
      u.sp = s.sp ∧ (∀ r, getReg r u = getReg r s) ∧ u.f = s.f

/-! ### 8-bit arithmetic and logic -/

/-- ADD and ADC: the result modulo 256, Z of it, N = 0, H the carry out of bit 3, C the carry out of bit 7, the sums made
as integers; on a register, (HL) and d8 (42_alu8.md R190, R191, R192, R193). -/
def Obligations.AddAndAdc : Prop :=
  ∀ (o : AluOp) (t : Target) (n : Byte) (s : State) (c : Nat),
    (o = .ADD ∧ c = 0 ∨ o = .ADC ∧ c = if s.f.getLsbD 4 then 1 else 0) →
    let res : Byte → State → State := fun v s1 => { s1 with
      a := BitVec.ofNat 8 (s.a.toNat + v.toNat + c)
      f := flagByte (decide ((s.a.toNat + v.toNat + c) % 256 = 0)) false
        (decide (s.a.toNat % 16 + v.toNat % 16 + c > 15)) (decide (s.a.toNat + v.toNat + c > 255)) }
    encode (.alu o t) = [0x80 ||| o.code <<< 3 ||| t.code] ∧ encode (.aluImm o n) = [0xC6 ||| o.code <<< 3, n] ∧
      GetsTarget (exec (.alu o t) s) t s res ∧ exec (.aluImm o n) s = .next (res n s)

/-- SUB, SBC and CP: the difference modulo 256, Z of it, N = 1, H and C the borrows, made as integers; CP discards the
difference (42_alu8.md R190, R191, R194, R195, R199). -/
def Obligations.SubSbcAndCp : Prop :=
  ∀ (o : AluOp) (t : Target) (n : Byte) (s : State) (c : Nat),
    (o = .SUB ∧ c = 0 ∨ o = .SBC ∧ c = (if s.f.getLsbD 4 then 1 else 0) ∨ o = .CP ∧ c = 0) →
    let res : Byte → State → State := fun v s1 => { s1 with
      a := if o = .CP then s.a else BitVec.ofNat 8 (512 + s.a.toNat - v.toNat - c)
      f := flagByte (decide ((512 + s.a.toNat - v.toNat - c) % 256 = 0)) true
        (decide (s.a.toNat % 16 < v.toNat % 16 + c)) (decide (s.a.toNat < v.toNat + c)) }
    encode (.alu o t) = [0x80 ||| o.code <<< 3 ||| t.code] ∧ encode (.aluImm o n) = [0xC6 ||| o.code <<< 3, n] ∧
      GetsTarget (exec (.alu o t) s) t s res ∧ exec (.aluImm o n) s = .next (res n s)

/-- AND, XOR and OR: the bitwise result, Z of it, N = 0, H = 1 for AND alone, C = 0 (42_alu8.md R190, R196, R197,
R198). -/
def Obligations.AndXorAndOr : Prop :=
  ∀ (t : Target) (n : Byte) (s : State),
    let res : AluOp → Byte → State → State := fun o v s1 =>
      let r : Byte := if o = .AND then s.a &&& v else if o = .XOR then s.a ^^^ v else s.a ||| v
      { s1 with a := r, f := flagByte (decide (r = 0x00)) false (decide (o = .AND)) false }
    ∀ o : AluOp, (o = .AND ∨ o = .XOR ∨ o = .OR) →
      encode (.alu o t) = [0x80 ||| o.code <<< 3 ||| t.code] ∧ encode (.aluImm o n) = [0xC6 ||| o.code <<< 3, n] ∧
        GetsTarget (exec (.alu o t) s) t s (res o) ∧ exec (.aluImm o n) s = .next (res o n s)

/-- INC and DEC of a register or (HL): one read, one write, Z of the result, N = 0 or 1, H from the old low nibble, C
unchanged (42_alu8.md R200, R201, R202, R203). -/
def Obligations.IncrementAndDecrement : Prop :=
  ∀ (t : Target) (s : State),
    (encode (.inc t) = [0x04 ||| t.code <<< 3] ∧
      UpdatesTarget (exec (.inc t) s) t s (fun old => old + 1) fun old s2 => { s2 with
        f := flagByte (decide (old.toNat = 0xFF)) false (decide (old.toNat % 16 = 15)) (s.f.getLsbD 4) }) ∧
    (encode (.dec t) = [0x05 ||| t.code <<< 3] ∧
      UpdatesTarget (exec (.dec t) s) t s (fun old => old - 1) fun old s2 => { s2 with
        f := flagByte (decide (old.toNat = 0x01)) true (decide (old.toNat % 16 = 0)) (s.f.getLsbD 4) })

/-- DAA by its pseudocode, both conditions on A as it was; CPL complements A and sets N and H (42_alu8.md R204,
R205). -/
def Obligations.DecimalAdjustAndComplement : Prop :=
  ∀ (s : State) (low high n : Bool) (corr a : Byte), n = s.f.getLsbD 6 →
    (low = true ↔ s.f.getLsbD 5 = true ∨ n = false ∧ s.a.toNat % 16 > 9) →
    (high = true ↔ s.f.getLsbD 4 = true ∨ n = false ∧ s.a.toNat > 0x99) →
    corr = (if low then 0x06 else 0x00) + (if high then 0x60 else 0x00) →
    a = (if n then s.a - corr else s.a + corr) →
    (encode .daa = [0x27] ∧
      exec .daa s = .next { s with a := a, f := flagByte (decide (a = 0x00)) n false high }) ∧
    (encode .cpl = [0x2F] ∧
      exec .cpl s = .next { s with a := ~~~s.a, f := flagByte (s.f.getLsbD 7) true true (s.f.getLsbD 4) })

/-- DAA after a BCD addition or subtraction gives the decimal sum or difference of two digits, and C its carry or borrow
(42_alu8.md R192, R194, R204). -/
def Obligations.DecimalAdjustGivesDecimalResult : Prop :=
  ∀ (s : State) (x y : Nat), x < 100 → y < 100 →
    let bcd : Nat → Byte := fun k => BitVec.ofNat 8 (k / 10 * 16 + k % 10)
    s.a = bcd x →
      (∃ t u, exec (.add_A_d8 (bcd y)) s = .next t ∧ exec .daa t = .next u ∧
        u.a = bcd ((x + y) % 100) ∧ u.f.getLsbD 4 = decide (x + y ≥ 100)) ∧
      (∃ t u, exec (.sub_d8 (bcd y)) s = .next t ∧ exec .daa t = .next u ∧
        u.a = bcd ((x + 100 - y) % 100) ∧ u.f.getLsbD 4 = decide (x < y))

/-! ### 16-bit arithmetic -/

/-- `ADD HL,rr` keeps Z, clears N and takes H and C out of bits 11 and 15; `INC rr` and `DEC rr` change no flag
(43_alu16.md R230, R231, R232). -/
def Obligations.SixteenBitArithmetic : Prop :=
  ∀ (p : Rp) (s : State) (x y : Nat), x = (wordOfBytes s.h s.l).toNat → y = (getPair p.pair s).toNat →
    (encode (.addHL p) = [0x09 ||| p.code <<< 4] ∧
      exec (.addHL p) s = .next { s with
        h := BitVec.ofNat 8 ((x + y) / 256), l := BitVec.ofNat 8 (x + y)
        f := flagByte (s.f.getLsbD 7) false (decide (x % 4096 + y % 4096 > 4095)) (decide (x + y > 65535)) }) ∧
    (encode (.incPair p) = [0x03 ||| p.code <<< 4] ∧
      exec (.incPair p) s = .next (setPair p.pair (BitVec.ofNat 16 (y + 1)) s)) ∧
    (encode (.decPair p) = [0x0B ||| p.code <<< 4] ∧
      exec (.decPair p) s = .next (setPair p.pair (BitVec.ofNat 16 (y + 65535)) s))

/-- `ADD SP,e8` and `LD HL,SP+e8` add the signed byte; Z = N = 0, and H and C come from the unsigned addition of the low
byte of SP and the raw immediate (43_alu16.md R233, R234). -/
def Obligations.StackPointerOffsets : Prop :=
  ∀ (e : Byte) (s : State) (sum : Word) (f : Byte),
    sum = BitVec.ofInt 16 (s.sp.toNat + (if e.toNat < 128 then (e.toNat : Int) else e.toNat - 256)) →
    f = flagByte false false (decide (s.sp.toNat % 16 + e.toNat % 16 > 15))
      (decide (s.sp.toNat % 256 + e.toNat > 255)) →
    (encode (.add_SP_e8 e) = [0xE8, e] ∧ exec (.add_SP_e8 e) s = .next { s with sp := sum, f := f }) ∧
    (encode (.ld_HL_SPe8 e) = [0xF8, e] ∧
      exec (.ld_HL_SPe8 e) s = .next { s with h := highByte sum, l := lowByte sum, f := f })

/-! ### Control transfer -/

/-- The jumps: PC becomes the target, which for JR is `pc_next` plus the signed byte, wrapping; a conditional jump not
taken changes nothing; no flag changes (30_encoding.md R105, 44_control.md R251, R252, R253, R254, R255). -/
def Obligations.Jumps : Prop :=
  ∀ (cc : Cond) (a16 : Word) (e : Byte) (s : State) (taken : Bool) (rel : Word),
    taken = (match cc with
      | .NZ => !s.f.getLsbD 7
      | .Z => s.f.getLsbD 7
      | .NC => !s.f.getLsbD 4
      | .C => s.f.getLsbD 4) →
    rel = BitVec.ofInt 16 (s.pc.toNat + (if e.toNat < 128 then (e.toNat : Int) else e.toNat - 256)) →
    (encode (.jp_a16 a16) = [0xC3, lowByte a16, highByte a16] ∧ exec (.jp_a16 a16) s = .next { s with pc := a16 }) ∧
    (encode (.jpCond cc a16) = [0xC2 ||| cc.code <<< 3, lowByte a16, highByte a16] ∧
      exec (.jpCond cc a16) s = .next (if taken then { s with pc := a16 } else s)) ∧
    (encode .jp_HL = [0xE9] ∧ exec .jp_HL s = .next { s with pc := wordOfBytes s.h s.l }) ∧
    (encode (.jr_e8 e) = [0x18, e] ∧ exec (.jr_e8 e) s = .next { s with pc := rel }) ∧
    (encode (.jrCond cc e) = [0x20 ||| cc.code <<< 3, e] ∧
      exec (.jrCond cc e) s = .next (if taken then { s with pc := rel } else s))

/-- CALL and RST push `pc_next` and jump; a CALL cc not taken changes nothing (44_control.md R256, R257, R261). -/
def Obligations.CallsAndRestarts : Prop :=
  ∀ (cc : Cond) (a16 : Word) (y : Bit3) (s : State),
    (encode (.call_a16 a16) = [0xCD, lowByte a16, highByte a16] ∧
      StoresWord (exec (.call_a16 a16) s) (s.sp - 2) s.pc { s with sp := s.sp - 2 } fun t => { t with pc := a16 }) ∧
    (encode (.callCond cc a16) = [0xC4 ||| cc.code <<< 3, lowByte a16, highByte a16] ∧
      (condition cc s = true → StoresWord (exec (.callCond cc a16) s) (s.sp - 2) s.pc { s with sp := s.sp - 2 }
        fun t => { t with pc := a16 }) ∧
      (condition cc s = false → exec (.callCond cc a16) s = .next s)) ∧
    (encode (.rst y) = [0xC7 ||| y.code <<< 3] ∧
      StoresWord (exec (.rst y) s) (s.sp - 2) s.pc { s with sp := s.sp - 2 } fun t =>
        { t with pc := BitVec.ofNat 16 (8 * y.code.toNat) })

/-- RET pops PC; a RET cc not taken changes nothing; RETI also sets IME (44_control.md R258, R259, R260). -/
def Obligations.Returns : Prop :=
  ∀ (cc : Cond) (s : State),
    (encode .ret = [0xC9] ∧
      LoadsWord (exec .ret s) s.sp s fun v t => { t with sp := s.sp + 2, pc := v }) ∧
    (encode (.retCond cc) = [0xC0 ||| cc.code <<< 3] ∧
      (condition cc s = true →
        LoadsWord (exec (.retCond cc) s) s.sp s fun v t => { t with sp := s.sp + 2, pc := v }) ∧
      (condition cc s = false → exec (.retCond cc) s = .next s)) ∧
    (encode .reti = [0xD9] ∧
      LoadsWord (exec .reti s) s.sp s fun v t => { t with sp := s.sp + 2, pc := v, ime := true })

/-! ### Rotates, shifts and bit operations -/

/-- RLCA, RRCA, RLA and RRA rotate A, circular or through the carry; Z = N = H = 0 and C is the bit shifted out
(45_rotate_shift_bit.md R270, R271, R272, R273). -/
def Obligations.AccumulatorRotates : Prop :=
  ∀ (s : State) (x c : Nat), x = s.a.toNat → c = (if s.f.getLsbD 4 then 1 else 0) →
    (encode .rlca = [0x07] ∧ exec .rlca s = .next { s with
      a := BitVec.ofNat 8 (x * 2 + x / 128), f := flagByte false false false (decide (x ≥ 128)) }) ∧
    (encode .rla = [0x17] ∧ exec .rla s = .next { s with
      a := BitVec.ofNat 8 (x * 2 + c), f := flagByte false false false (decide (x ≥ 128)) }) ∧
    (encode .rrca = [0x0F] ∧ exec .rrca s = .next { s with
      a := BitVec.ofNat 8 (x / 2 + x % 2 * 128), f := flagByte false false false (decide (x % 2 = 1)) }) ∧
    (encode .rra = [0x1F] ∧ exec .rra s = .next { s with
      a := BitVec.ofNat 8 (x / 2 + c * 128), f := flagByte false false false (decide (x % 2 = 1)) })

/-- The extended rotates, shifts and SWAP: one Get, one Put, Z of the result, N = H = 0, C the bit shifted out, 0 for SWAP
(45_rotate_shift_bit.md R275, R276, R277, R278, R279, R280, R281, R282, R283). -/
def Obligations.ExtendedRotatesAndShifts : Prop :=
  ∀ (k : RotOp) (t : Target) (s : State) (c : Nat), c = (if s.f.getLsbD 4 then 1 else 0) →
    let res : Byte → Nat := fun v =>
      match k with
      | .RLC => (v.toNat * 2 + v.toNat / 128) % 256
      | .RRC => v.toNat / 2 + v.toNat % 2 * 128
      | .RL => (v.toNat * 2 + c) % 256
      | .RR => v.toNat / 2 + c * 128
      | .SLA => v.toNat * 2 % 256
      | .SRA => v.toNat / 2 + v.toNat / 128 * 128
      | .SWAP => v.toNat % 16 * 16 + v.toNat / 16
      | .SRL => v.toNat / 2
    let out : Byte → Bool := fun v =>
      match k with
      | .RLC | .RL | .SLA => decide (v.toNat ≥ 128)
      | .RRC | .RR | .SRA | .SRL => decide (v.toNat % 2 = 1)
      | .SWAP => false
    encode (.rot k t) = ([0xCB, k.code <<< 3 ||| t.code] : List Byte) ∧
      UpdatesTarget (exec (.rot k t) s) t s (fun v => BitVec.ofNat 8 (res v)) fun v s2 =>
        { s2 with f := flagByte (decide (res v = 0)) false false (out v) }

/-- BIT tests a bit and keeps C; RES clears a bit and SET sets it, every other bit and every flag kept
(45_rotate_shift_bit.md R275, R284, R285, R286). -/
def Obligations.BitOperations : Prop :=
  ∀ (y : Bit3) (t : Target) (s : State) (b : Nat), b = y.code.toNat →
    (encode (.bit y t) = ([0xCB, 0x40 ||| y.code <<< 3 ||| t.code] : List Byte) ∧
      GetsTarget (exec (.bit y t) s) t s fun v s1 =>
        { s1 with f := flagByte (decide (v.toNat / 2 ^ b % 2 = 0)) false true (s.f.getLsbD 4) }) ∧
    (encode (.res y t) = ([0xCB, 0x80 ||| y.code <<< 3 ||| t.code] : List Byte) ∧
      UpdatesTarget (exec (.res y t) s) t s (fun v => v &&& ~~~((1 : Byte) <<< b)) fun _ s2 => s2) ∧
    (encode (.set y t) = ([0xCB, 0xC0 ||| y.code <<< 3 ||| t.code] : List Byte) ∧
      UpdatesTarget (exec (.set y t) s) t s (fun v => v ||| ((1 : Byte) <<< b)) fun _ s2 => s2)

/-! ### Processor control -/

/-- NOP does nothing; DI clears IME; SCF and CCF set and complement C, clear N and H and keep Z
(46_processor_control.md R300, R303, R305, R306). -/
def Obligations.ProcessorControl : Prop :=
  ∀ s : State,
    (encode .nop = [0x00] ∧ exec .nop s = .next s) ∧
    (encode .di = [0xF3] ∧ exec .di s = .next { s with ime := false }) ∧
    (encode .scf = [0x37] ∧ exec .scf s = .next { s with f := flagByte (s.f.getLsbD 7) false false true }) ∧
    (encode .ccf = [0x3F] ∧
      exec .ccf s = .next { s with f := flagByte (s.f.getLsbD 7) false false (!s.f.getLsbD 4) })

/-- EI sets IME at once (decision D18); HALT and STOP set `halted` under `halt_mode = stall` and do nothing under `nop`
(D19, STOP's ignored byte D20); an ILLEGAL byte takes DecodeFault at PC (D1, log entry 8) (46_processor_control.md R301,
R302, R304, 30_encoding.md R112). -/
def Obligations.HaltStopEnableAndIllegal : Prop :=
  ∀ (s : State) (b op : Byte),
    (encode .ei = [0xFB] ∧ exec .ei s = .next { s with ime := true }) ∧
    (encode .halt = [0x76] ∧ encode (.stop b) = [0x10, b]) ∧
    (s.params.haltMode = .stall → exec .halt s = .next { s with halted := true } ∧
      exec (.stop b) s = .next { s with halted := true }) ∧
    (s.params.haltMode = .nop → exec .halt s = .next s ∧ exec (.stop b) s = .next s) ∧
    exec (.illegal op) s = .next (enterFault (.decodeFault s.pc op) s)

/-! ### Frames -/

/-- The forms that touch no memory write only the registers, flags and control bits named, PC only where they are jumps,
and no byte of memory changes (10_state.md R30 and the rules of files 40 to 46). -/
def Obligations.FrameOfRegisterForms : Prop :=
  (∀ d r n, FrameOf (.ldRegReg d r) { regs := [d] } ∧ FrameOf (.ldRegImm d n) { regs := [d] }) ∧
  (∀ n, FrameOf (.ldPairImm .BC n) { regs := [.B, .C] } ∧ FrameOf (.ldPairImm .DE n) { regs := [.D, .E] } ∧
    FrameOf (.ldPairImm .HL n) { regs := [.H, .L] } ∧ FrameOf (.ldPairImm .SP n) { sp := true }) ∧
  FrameOf .ld_SP_HL { sp := true } ∧
  (∀ o r n, o ≠ AluOp.CP → FrameOf (.alu o (.reg r)) { regs := [.A], flags := 0xF0 } ∧
    FrameOf (.aluImm o n) { regs := [.A], flags := 0xF0 }) ∧
  (∀ r n, FrameOf (.alu .CP (.reg r)) { flags := 0xF0 } ∧ FrameOf (.aluImm .CP n) { flags := 0xF0 }) ∧
  (∀ r, FrameOf (.inc (.reg r)) { regs := [r], flags := 0xE0 } ∧
    FrameOf (.dec (.reg r)) { regs := [r], flags := 0xE0 }) ∧
  FrameOf .daa { regs := [.A], flags := 0xB0 } ∧ FrameOf .cpl { regs := [.A], flags := 0x60 } ∧
  (∀ p, FrameOf (.addHL p) { regs := [.H, .L], flags := 0x70 }) ∧
  (FrameOf (.incPair .BC) { regs := [.B, .C] } ∧ FrameOf (.decPair .BC) { regs := [.B, .C] } ∧
    FrameOf (.incPair .DE) { regs := [.D, .E] } ∧ FrameOf (.decPair .DE) { regs := [.D, .E] } ∧
    FrameOf (.incPair .HL) { regs := [.H, .L] } ∧ FrameOf (.decPair .HL) { regs := [.H, .L] } ∧
    FrameOf (.incPair .SP) { sp := true } ∧ FrameOf (.decPair .SP) { sp := true }) ∧
  (∀ e, FrameOf (.add_SP_e8 e) { flags := 0xF0, sp := true } ∧
    FrameOf (.ld_HL_SPe8 e) { regs := [.H, .L], flags := 0xF0 }) ∧
  (∀ cc a16 e, FrameOf (.jp_a16 a16) { pc := true } ∧ FrameOf (.jpCond cc a16) { pc := true } ∧
    FrameOf .jp_HL { pc := true } ∧ FrameOf (.jr_e8 e) { pc := true } ∧ FrameOf (.jrCond cc e) { pc := true }) ∧
  (FrameOf .rlca { regs := [.A], flags := 0xF0 } ∧ FrameOf .rla { regs := [.A], flags := 0xF0 } ∧
    FrameOf .rrca { regs := [.A], flags := 0xF0 } ∧ FrameOf .rra { regs := [.A], flags := 0xF0 }) ∧
  (∀ k y r, FrameOf (.rot k (.reg r)) { regs := [r], flags := 0xF0 } ∧
    FrameOf (.bit y (.reg r)) { flags := 0xE0 } ∧ FrameOf (.res y (.reg r)) { regs := [r] } ∧
    FrameOf (.set y (.reg r)) { regs := [r] }) ∧
  (∀ b, FrameOf .nop {} ∧ FrameOf .halt { halted := true } ∧ FrameOf (.stop b) { halted := true } ∧
    FrameOf .di { ime := true } ∧ FrameOf .ei { ime := true } ∧ FrameOf .scf { flags := 0x70 } ∧
    FrameOf .ccf { flags := 0x70 })

/-- The forms that read memory and store none write only what is named, PC only where they are returns, and no byte of
memory changes (20_memory.md R82;
40_load8.md, 41_load16_stack.md, 42_alu8.md, 44_control.md, 45_rotate_shift_bit.md). -/
def Obligations.FrameOfLoadForms : Prop :=
  (∀ d, FrameOf (.ldRegMem d) { regs := [d] }) ∧
  (∀ a8 a16, FrameOf .ld_A_mBC { regs := [.A] } ∧ FrameOf .ld_A_mDE { regs := [.A] } ∧
    FrameOf (.ldh_A_ma8 a8) { regs := [.A] } ∧ FrameOf .ld_A_mC { regs := [.A] } ∧
    FrameOf (.ld_A_ma16 a16) { regs := [.A] }) ∧
  (FrameOf .ld_A_mHLi { regs := [.A, .H, .L] } ∧ FrameOf .ld_A_mHLd { regs := [.A, .H, .L] }) ∧
  (FrameOf (.pop .BC) { regs := [.B, .C], sp := true } ∧ FrameOf (.pop .DE) { regs := [.D, .E], sp := true } ∧
    FrameOf (.pop .HL) { regs := [.H, .L], sp := true } ∧
    FrameOf (.pop .AF) { regs := [.A], flags := 0xF0, sp := true }) ∧
  (∀ o, o ≠ AluOp.CP → FrameOf (.alu o .mHL) { regs := [.A], flags := 0xF0 }) ∧
  FrameOf (.alu .CP .mHL) { flags := 0xF0 } ∧
  (∀ cc, FrameOf .ret { sp := true, pc := true } ∧ FrameOf (.retCond cc) { sp := true, pc := true }) ∧
  FrameOf .reti { sp := true, pc := true, ime := true } ∧
  (∀ y, FrameOf (.bit y .mHL) { flags := 0xE0 })

/-- The forms that store write, besides what is named, only the bytes at the addresses computed here, and PC only where
they are calls or restarts (20_memory.md R82, R85; 40_load8.md, 41_load16_stack.md, 42_alu8.md, 44_control.md,
45_rotate_shift_bit.md). -/
def Obligations.FrameOfStoreForms : Prop :=
  let hl : State → List Word := fun s => [wordOfBytes s.h s.l]
  let stack : State → List Word := fun s => [s.sp - 2, s.sp - 1]
  (∀ r n, StoreFrameOf (.ldMemReg r) {} hl ∧ StoreFrameOf (.ld_mHL_d8 n) {} hl) ∧
  (StoreFrameOf .ld_mBC_A {} fun s => [wordOfBytes s.b s.c]) ∧
  (StoreFrameOf .ld_mDE_A {} fun s => [wordOfBytes s.d s.e]) ∧
  (StoreFrameOf .ld_mHLi_A { regs := [.H, .L] } hl ∧ StoreFrameOf .ld_mHLd_A { regs := [.H, .L] } hl) ∧
  (∀ a8, StoreFrameOf (.ldh_ma8_A a8) {} fun _ => [wordOfBytes 0xFF a8]) ∧
  (StoreFrameOf .ld_mC_A {} fun s => [wordOfBytes 0xFF s.c]) ∧
  (∀ a16, (StoreFrameOf (.ld_ma16_A a16) {} fun _ => [a16]) ∧
    StoreFrameOf (.ld_ma16_SP a16) {} fun _ => [a16, a16 + 1]) ∧
  (∀ q, StoreFrameOf (.push q) { sp := true } stack) ∧
  (StoreFrameOf (.inc .mHL) { flags := 0xE0 } hl ∧ StoreFrameOf (.dec .mHL) { flags := 0xE0 } hl) ∧
  (∀ cc a16 y, StoreFrameOf (.call_a16 a16) { sp := true, pc := true } stack ∧
    StoreFrameOf (.callCond cc a16) { sp := true, pc := true } stack ∧
    StoreFrameOf (.rst y) { sp := true, pc := true } stack) ∧
  (∀ k y, StoreFrameOf (.rot k .mHL) { flags := 0xF0 } hl ∧ StoreFrameOf (.res y .mHL) {} hl ∧
    StoreFrameOf (.set y .mHL) {} hl)

/-! ### Rules of the whole machine -/

/-- SP is written by no instruction but those that R24 lists (10_state.md R24). -/
def Obligations.OnlyListedInstructionsWriteSP : Prop :=
  ∀ (i : Instr) (s t : State), exec i s = .next t → t.sp ≠ s.sp → writesSP i = true

/-- IME is written by DI, EI and RETI alone, `halted` by HALT and STOP alone (10_state.md R32, R33). That there is a flag
`halted` at all is the spec's decision D19 (log entry 14). -/
def Obligations.OnlyListedInstructionsWriteControlBits : Prop :=
  ∀ (i : Instr) (s t : State), exec i s = .next t →
    (t.ime ≠ s.ime → i = .di ∨ i = .ei ∨ i = .reti) ∧ (t.halted ≠ s.halted → i = .halt ∨ ∃ b, i = .stop b)

/-- Writes in the mapper's control ranges are the only thing that changes its two fields: the bank only by a write in
0x2000-0x3FFF, the mode only by one in 0x6000-0x7FFF; so an instruction changes the bank or the mode only if it stores a
byte there, and one that changes the bank leaves a legal one (10_state.md R39, 20_memory.md R74, R75, R76; that bit 0 of
the write selects the mode is decision D7, what the bank becomes is decision D8). -/
def Obligations.OnlyControlWritesChangeMapper : Prop :=
  (∀ (x : Word) (v : Byte) (s t : State), writeByte x v s = .done () t →
    (t.romBank ≠ s.romBank → 0x2000 ≤ x.toNat ∧ x.toNat ≤ 0x3FFF) ∧
    (t.mapperMode ≠ s.mapperMode → 0x6000 ≤ x.toNat ∧ x.toNat ≤ 0x7FFF)) ∧
  ∀ (i : Instr) (s t : State), exec i s = .next t →
    (t.romBank ≠ s.romBank → BankLegal t ∧ ∃ x ∈ storesAt i s, 0x2000 ≤ x.toNat ∧ x.toNat ≤ 0x3FFF) ∧
    (t.mapperMode ≠ s.mapperMode → ∃ x ∈ storesAt i s, 0x6000 ≤ x.toNat ∧ x.toNat ≤ 0x7FFF)
end

