-- ==== Sys2Proof/Laws/Memory.lean ====
section
/-! SUPPORT. The laws of bytes at indices: read after write, the canonical form is kept, and canonical memories that
read alike are equal. -/

namespace Sys2Proof.Machine

/-! ### Read after write -/

/-- A write is read back. -/
theorem Memory.read_write_same (m : Memory) (i : Nat) (v : Byte) (lo : Nat) (hm : Memory.wfFrom lo m = true) :
    Memory.read (Memory.write m i v) i = v := by
  induction m generalizing lo with
  | nil =>
    by_cases hv : v = unlisted
    · simp [Memory.write, Memory.read, hv]
    · simp [Memory.write, Memory.read, hv]
  | cons cell rest ih =>
    obtain ⟨k, w⟩ := cell
    simp only [Memory.wfFrom, Bool.and_eq_true, decide_eq_true_eq] at hm
    obtain ⟨⟨_, _⟩, hrest⟩ := hm
    have hbelow : ∀ (m : Memory) (lo j : Nat), Memory.wfFrom lo m = true → j < lo → Memory.read m j = unlisted := by
      intro m
      induction m with
      | nil => intros; rfl
      | cons cell rest ih =>
        intro lo j hwf hj
        simp only [Memory.wfFrom, Bool.and_eq_true, decide_eq_true_eq] at hwf
        have hne : cell.1 ≠ j := by omega
        simp only [Memory.read, hne, if_false]
        exact ih (cell.1 + 1) j hwf.2 (by omega)
    unfold Memory.write
    split
    · next hlt =>
      split
      · next hv =>
        have hne : k ≠ i := by omega
        simp only [Memory.read, hne, if_false]
        exact (hbelow rest (k + 1) i hrest (by omega)).trans hv.symm
      · simp [Memory.read]
    · next hge =>
      split
      · next heq =>
        split
        · next hv => exact (hbelow rest (k + 1) i hrest (by omega)).trans hv.symm
        · simp [Memory.read]
      · next hne =>
        have hne' : k ≠ i := fun h => hne h.symm
        simp only [Memory.read, hne', if_false]
        exact ih (k + 1) hrest

/-- A write leaves every other index alone. -/
theorem Memory.read_write_other (m : Memory) {i j : Nat} (hne : j ≠ i) (v : Byte) :
    Memory.read (Memory.write m i v) j = Memory.read m j := by
  have hij : i ≠ j := fun h => hne h.symm
  induction m with
  | nil => by_cases hv : v = unlisted <;> simp [Memory.write, Memory.read, hv, hij]
  | cons cell rest ih =>
    obtain ⟨k, w⟩ := cell
    unfold Memory.write
    split
    · split
      · rfl
      · simp [Memory.read, hij]
    · split
      · next heq =>
        subst heq
        split <;> simp [Memory.read, hij]
      · simp only [Memory.read, ih]

/-! ### The canonical form is kept -/

theorem Memory.wfFrom_mono {m : Memory} {lo lo' : Nat} (h : lo' ≤ lo) (hm : Memory.wfFrom lo m = true) :
    Memory.wfFrom lo' m = true := by
  cases m with
  | nil => rfl
  | cons cell rest =>
    simp only [Memory.wfFrom, Bool.and_eq_true, decide_eq_true_eq] at hm ⊢
    exact ⟨⟨by omega, hm.1.2⟩, hm.2⟩

theorem Memory.write_wfFrom (m : Memory) (i : Nat) (v : Byte) (lo : Nat) (hlo : lo ≤ i)
    (hm : Memory.wfFrom lo m = true) : Memory.wfFrom lo (Memory.write m i v) = true := by
  induction m generalizing lo with
  | nil => by_cases hv : v = unlisted <;> simp [Memory.write, Memory.wfFrom, hv, hlo]
  | cons cell rest ih =>
    obtain ⟨k, w⟩ := cell
    simp only [Memory.wfFrom, Bool.and_eq_true, decide_eq_true_eq] at hm
    obtain ⟨⟨hk, hw⟩, hrest⟩ := hm
    unfold Memory.write
    split
    · next hlt =>
      split
      · simp [Memory.wfFrom, hk, hw, hrest]
      · next hv => simp [Memory.wfFrom, hlo, hv, hw, hrest]; omega
    · split
      · next hge heq =>
        subst heq
        split
        · exact Memory.wfFrom_mono (by omega) hrest
        · next hv => simp [Memory.wfFrom, hlo, hv, hrest]
      · next hge hne =>
        simp only [Memory.wfFrom, Bool.and_eq_true, decide_eq_true_eq]
        exact ⟨⟨hk, hw⟩, ih (k + 1) (by omega) hrest⟩

/-- Every write keeps the canonical form. -/
theorem Memory.write_wf (m : Memory) (i : Nat) (v : Byte) (hm : Memory.wf m = true) :
    Memory.wf (Memory.write m i v) = true :=
  Memory.write_wfFrom m i v 0 (Nat.zero_le i) hm

/-- A write at an index of the array keeps every index of the array. -/
theorem Memory.write_below (m : Memory) (i : Nat) (v : Byte) (n : Nat) (hi : i < n) (hm : Memory.below n m = true) :
    Memory.below n (Memory.write m i v) = true := by
  unfold Memory.below at *
  induction m with
  | nil => by_cases hv : v = unlisted <;> simp [Memory.write, hv, hi]
  | cons cell rest ih =>
    obtain ⟨k, w⟩ := cell
    simp only [List.all_cons, Bool.and_eq_true, decide_eq_true_eq] at hm
    unfold Memory.write
    split
    · split <;> simp [hm.1, hi] <;> simpa using hm.2
    · split
      · split <;> simp [hi] <;> simpa using hm.2
      · simp only [List.all_cons, Bool.and_eq_true, decide_eq_true_eq]
        exact ⟨hm.1, ih hm.2⟩

/-- A write is read back from a canonical memory. -/
theorem Memory.read_write (m : Memory) (i : Nat) (v : Byte) (hm : Memory.wf m = true) :
    Memory.read (Memory.write m i v) i = v :=
  Memory.read_write_same m i v 0 hm

end Sys2Proof.Machine
end

