-- ==== Sys2Proof/Laws/Region.lean ====
section
/-! SUPPORT. The regions of the address space as ranges of addresses: no later proof unfolds `region`. -/

namespace Sys2Proof.Machine

theorem region_ie_iff (addr : Word) : region addr = .ie ↔ addr.toNat = 0xFFFF := by
  have := addr.isLt
  unfold region regionHigh regionLow
  split_ifs <;> simp <;> omega

theorem region_hram_iff (addr : Word) : region addr = .hram ↔ 0xFF80 ≤ addr.toNat ∧ addr.toNat ≤ 0xFFFE := by
  have := addr.isLt
  unfold region regionHigh regionLow
  split_ifs <;> simp <;> omega

theorem region_unusableUpper_iff (addr : Word) : region addr = .unusableUpper ↔ 0xFF4C ≤ addr.toNat ∧ addr.toNat ≤ 0xFF7F := by
  have := addr.isLt
  unfold region regionHigh regionLow
  split_ifs <;> simp <;> omega

theorem region_serial_iff (addr : Word) : region addr = .serial ↔ addr.toNat = 0xFF01 := by
  have := addr.isLt
  unfold region regionHigh regionLow
  split_ifs <;> simp <;> omega

theorem region_unusableLower_iff (addr : Word) : region addr = .unusableLower ↔ 0xFEA0 ≤ addr.toNat ∧ addr.toNat ≤ 0xFEFF := by
  have := addr.isLt
  unfold region regionHigh regionLow
  split_ifs <;> simp <;> omega

theorem region_oam_iff (addr : Word) : region addr = .oam ↔ 0xFE00 ≤ addr.toNat ∧ addr.toNat ≤ 0xFE9F := by
  have := addr.isLt
  unfold region regionHigh regionLow
  split_ifs <;> simp <;> omega

theorem region_echo_iff (addr : Word) : region addr = .echo ↔ 0xE000 ≤ addr.toNat ∧ addr.toNat ≤ 0xFDFF := by
  have := addr.isLt
  unfold region regionHigh regionLow
  split_ifs <;> simp <;> omega

theorem region_wram_iff (addr : Word) : region addr = .wram ↔ 0xC000 ≤ addr.toNat ∧ addr.toNat ≤ 0xDFFF := by
  have := addr.isLt
  unfold region regionHigh regionLow
  split_ifs <;> simp <;> omega

theorem region_cartRam_iff (addr : Word) : region addr = .cartRam ↔ 0xA000 ≤ addr.toNat ∧ addr.toNat ≤ 0xBFFF := by
  have := addr.isLt
  unfold region regionHigh regionLow
  split_ifs <;> simp <;> omega

theorem region_vram_iff (addr : Word) : region addr = .vram ↔ 0x8000 ≤ addr.toNat ∧ addr.toNat ≤ 0x9FFF := by
  have := addr.isLt
  unfold region regionHigh regionLow
  split_ifs <;> simp <;> omega

theorem region_romBank_iff (addr : Word) : region addr = .romBank ↔ 0x4000 ≤ addr.toNat ∧ addr.toNat ≤ 0x7FFF := by
  have := addr.isLt
  unfold region regionHigh regionLow
  split_ifs <;> simp <;> omega

theorem region_io_iff (addr : Word) : region addr = .io ↔ 0xFF00 ≤ addr.toNat ∧ addr.toNat ≤ 0xFF4B ∧ addr.toNat ≠ 0xFF01 := by
  have := addr.isLt
  unfold region regionHigh regionLow
  split_ifs <;> simp <;> omega

theorem region_romFixed_iff (addr : Word) : region addr = .romFixed ↔ addr.toNat ≤ 0x3FFF := by
  have := addr.isLt
  unfold region regionHigh regionLow
  split_ifs <;> simp <;> omega

/-- A ROM address is one below 0x8000. -/
theorem region_rom_iff (addr : Word) : (region addr = .romBank ∨ region addr = .romFixed) ↔ addr.toNat < 0x8000 := by
  rw [region_romBank_iff, region_romFixed_iff]
  omega

end Sys2Proof.Machine
end

