-- ==== Sys2Proof/Laws/State.lean ====
section
/-! SUPPORT. The small lemmas of the named updates of State: one per field per update, so that no later proof unfolds
an update. -/

namespace Sys2Proof.Machine


/-! ### enterFault writes status alone -/

@[simp] theorem enterFault_status (r : FaultRecord) (s : State) : (enterFault r s).status = .faulted r := rfl
@[simp] theorem enterFault_a (r : FaultRecord) (s : State) : (enterFault r s).a = s.a := rfl
@[simp] theorem enterFault_f (r : FaultRecord) (s : State) : (enterFault r s).f = s.f := rfl
@[simp] theorem enterFault_b (r : FaultRecord) (s : State) : (enterFault r s).b = s.b := rfl
@[simp] theorem enterFault_c (r : FaultRecord) (s : State) : (enterFault r s).c = s.c := rfl
@[simp] theorem enterFault_d (r : FaultRecord) (s : State) : (enterFault r s).d = s.d := rfl
@[simp] theorem enterFault_e (r : FaultRecord) (s : State) : (enterFault r s).e = s.e := rfl
@[simp] theorem enterFault_h (r : FaultRecord) (s : State) : (enterFault r s).h = s.h := rfl
@[simp] theorem enterFault_l (r : FaultRecord) (s : State) : (enterFault r s).l = s.l := rfl
@[simp] theorem enterFault_sp (r : FaultRecord) (s : State) : (enterFault r s).sp = s.sp := rfl
@[simp] theorem enterFault_pc (r : FaultRecord) (s : State) : (enterFault r s).pc = s.pc := rfl
@[simp] theorem enterFault_ime (r : FaultRecord) (s : State) : (enterFault r s).ime = s.ime := rfl
@[simp] theorem enterFault_halted (r : FaultRecord) (s : State) : (enterFault r s).halted = s.halted := rfl
@[simp] theorem enterFault_wram (r : FaultRecord) (s : State) : (enterFault r s).wram = s.wram := rfl
@[simp] theorem enterFault_hram (r : FaultRecord) (s : State) : (enterFault r s).hram = s.hram := rfl
@[simp] theorem enterFault_ie (r : FaultRecord) (s : State) : (enterFault r s).ie = s.ie := rfl
@[simp] theorem enterFault_mapperMode (r : FaultRecord) (s : State) : (enterFault r s).mapperMode = s.mapperMode := rfl
@[simp] theorem enterFault_romBank (r : FaultRecord) (s : State) : (enterFault r s).romBank = s.romBank := rfl
@[simp] theorem enterFault_cartRam (r : FaultRecord) (s : State) : (enterFault r s).cartRam = s.cartRam := rfl
@[simp] theorem enterFault_serialLine (r : FaultRecord) (s : State) : (enterFault r s).serialLine = s.serialLine := rfl
@[simp] theorem enterFault_serialOut (r : FaultRecord) (s : State) : (enterFault r s).serialOut = s.serialOut := rfl
@[simp] theorem enterFault_params (r : FaultRecord) (s : State) : (enterFault r s).params = s.params := rfl
@[simp] theorem enterFault_draws (r : FaultRecord) (s : State) : (enterFault r s).draws = s.draws := rfl

/-! ### setF and setFlags write F alone -/

@[simp] theorem setF_f (v : Byte) (s : State) : (setF v s).f = v &&& 0xF0 := rfl
@[simp] theorem setFlags_f (z n x y : Bool) (s : State) : (setFlags z n x y s).f = flagByte z n x y := rfl
@[simp] theorem setF_a (v : Byte) (s : State) : (setF v s).a = s.a := rfl
@[simp] theorem setFlags_a (z n x y : Bool) (s : State) : (setFlags z n x y s).a = s.a := rfl
@[simp] theorem setF_b (v : Byte) (s : State) : (setF v s).b = s.b := rfl
@[simp] theorem setFlags_b (z n x y : Bool) (s : State) : (setFlags z n x y s).b = s.b := rfl
@[simp] theorem setF_c (v : Byte) (s : State) : (setF v s).c = s.c := rfl
@[simp] theorem setFlags_c (z n x y : Bool) (s : State) : (setFlags z n x y s).c = s.c := rfl
@[simp] theorem setF_d (v : Byte) (s : State) : (setF v s).d = s.d := rfl
@[simp] theorem setFlags_d (z n x y : Bool) (s : State) : (setFlags z n x y s).d = s.d := rfl
@[simp] theorem setF_e (v : Byte) (s : State) : (setF v s).e = s.e := rfl
@[simp] theorem setFlags_e (z n x y : Bool) (s : State) : (setFlags z n x y s).e = s.e := rfl
@[simp] theorem setF_h (v : Byte) (s : State) : (setF v s).h = s.h := rfl
@[simp] theorem setFlags_h (z n x y : Bool) (s : State) : (setFlags z n x y s).h = s.h := rfl
@[simp] theorem setF_l (v : Byte) (s : State) : (setF v s).l = s.l := rfl
@[simp] theorem setFlags_l (z n x y : Bool) (s : State) : (setFlags z n x y s).l = s.l := rfl
@[simp] theorem setF_sp (v : Byte) (s : State) : (setF v s).sp = s.sp := rfl
@[simp] theorem setFlags_sp (z n x y : Bool) (s : State) : (setFlags z n x y s).sp = s.sp := rfl
@[simp] theorem setF_pc (v : Byte) (s : State) : (setF v s).pc = s.pc := rfl
@[simp] theorem setFlags_pc (z n x y : Bool) (s : State) : (setFlags z n x y s).pc = s.pc := rfl
@[simp] theorem setF_ime (v : Byte) (s : State) : (setF v s).ime = s.ime := rfl
@[simp] theorem setFlags_ime (z n x y : Bool) (s : State) : (setFlags z n x y s).ime = s.ime := rfl
@[simp] theorem setF_halted (v : Byte) (s : State) : (setF v s).halted = s.halted := rfl
@[simp] theorem setFlags_halted (z n x y : Bool) (s : State) : (setFlags z n x y s).halted = s.halted := rfl
@[simp] theorem setF_status (v : Byte) (s : State) : (setF v s).status = s.status := rfl
@[simp] theorem setFlags_status (z n x y : Bool) (s : State) : (setFlags z n x y s).status = s.status := rfl
@[simp] theorem setF_wram (v : Byte) (s : State) : (setF v s).wram = s.wram := rfl
@[simp] theorem setFlags_wram (z n x y : Bool) (s : State) : (setFlags z n x y s).wram = s.wram := rfl
@[simp] theorem setF_hram (v : Byte) (s : State) : (setF v s).hram = s.hram := rfl
@[simp] theorem setFlags_hram (z n x y : Bool) (s : State) : (setFlags z n x y s).hram = s.hram := rfl
@[simp] theorem setF_ie (v : Byte) (s : State) : (setF v s).ie = s.ie := rfl
@[simp] theorem setFlags_ie (z n x y : Bool) (s : State) : (setFlags z n x y s).ie = s.ie := rfl
@[simp] theorem setF_mapperMode (v : Byte) (s : State) : (setF v s).mapperMode = s.mapperMode := rfl
@[simp] theorem setFlags_mapperMode (z n x y : Bool) (s : State) : (setFlags z n x y s).mapperMode = s.mapperMode := rfl
@[simp] theorem setF_romBank (v : Byte) (s : State) : (setF v s).romBank = s.romBank := rfl
@[simp] theorem setFlags_romBank (z n x y : Bool) (s : State) : (setFlags z n x y s).romBank = s.romBank := rfl
@[simp] theorem setF_cartRam (v : Byte) (s : State) : (setF v s).cartRam = s.cartRam := rfl
@[simp] theorem setFlags_cartRam (z n x y : Bool) (s : State) : (setFlags z n x y s).cartRam = s.cartRam := rfl
@[simp] theorem setF_serialLine (v : Byte) (s : State) : (setF v s).serialLine = s.serialLine := rfl
@[simp] theorem setFlags_serialLine (z n x y : Bool) (s : State) : (setFlags z n x y s).serialLine = s.serialLine := rfl
@[simp] theorem setF_serialOut (v : Byte) (s : State) : (setF v s).serialOut = s.serialOut := rfl
@[simp] theorem setFlags_serialOut (z n x y : Bool) (s : State) : (setFlags z n x y s).serialOut = s.serialOut := rfl
@[simp] theorem setF_params (v : Byte) (s : State) : (setF v s).params = s.params := rfl
@[simp] theorem setFlags_params (z n x y : Bool) (s : State) : (setFlags z n x y s).params = s.params := rfl
@[simp] theorem setF_draws (v : Byte) (s : State) : (setF v s).draws = s.draws := rfl
@[simp] theorem setFlags_draws (z n x y : Bool) (s : State) : (setFlags z n x y s).draws = s.draws := rfl

/-! ### advance writes PC alone -/

@[simp] theorem advance_pc (n : Nat) (s : State) : (advance n s).pc = s.pc + BitVec.ofNat 16 n := rfl
@[simp] theorem advance_a (n : Nat) (s : State) : (advance n s).a = s.a := rfl
@[simp] theorem advance_f (n : Nat) (s : State) : (advance n s).f = s.f := rfl
@[simp] theorem advance_b (n : Nat) (s : State) : (advance n s).b = s.b := rfl
@[simp] theorem advance_c (n : Nat) (s : State) : (advance n s).c = s.c := rfl
@[simp] theorem advance_d (n : Nat) (s : State) : (advance n s).d = s.d := rfl
@[simp] theorem advance_e (n : Nat) (s : State) : (advance n s).e = s.e := rfl
@[simp] theorem advance_h (n : Nat) (s : State) : (advance n s).h = s.h := rfl
@[simp] theorem advance_l (n : Nat) (s : State) : (advance n s).l = s.l := rfl
@[simp] theorem advance_sp (n : Nat) (s : State) : (advance n s).sp = s.sp := rfl
@[simp] theorem advance_ime (n : Nat) (s : State) : (advance n s).ime = s.ime := rfl
@[simp] theorem advance_halted (n : Nat) (s : State) : (advance n s).halted = s.halted := rfl
@[simp] theorem advance_status (n : Nat) (s : State) : (advance n s).status = s.status := rfl
@[simp] theorem advance_wram (n : Nat) (s : State) : (advance n s).wram = s.wram := rfl
@[simp] theorem advance_hram (n : Nat) (s : State) : (advance n s).hram = s.hram := rfl
@[simp] theorem advance_ie (n : Nat) (s : State) : (advance n s).ie = s.ie := rfl
@[simp] theorem advance_mapperMode (n : Nat) (s : State) : (advance n s).mapperMode = s.mapperMode := rfl
@[simp] theorem advance_romBank (n : Nat) (s : State) : (advance n s).romBank = s.romBank := rfl
@[simp] theorem advance_cartRam (n : Nat) (s : State) : (advance n s).cartRam = s.cartRam := rfl
@[simp] theorem advance_serialLine (n : Nat) (s : State) : (advance n s).serialLine = s.serialLine := rfl
@[simp] theorem advance_serialOut (n : Nat) (s : State) : (advance n s).serialOut = s.serialOut := rfl
@[simp] theorem advance_params (n : Nat) (s : State) : (advance n s).params = s.params := rfl
@[simp] theorem advance_draws (n : Nat) (s : State) : (advance n s).draws = s.draws := rfl

/-! ### setReg writes one register -/

@[simp] theorem getReg_setReg_self (r : Reg8) (v : Byte) (s : State) : getReg r (setReg r v s) = v := by
  cases r <;> rfl

theorem getReg_setReg_other {r q : Reg8} (hne : q ≠ r) (v : Byte) (s : State) :
    getReg q (setReg r v s) = getReg q s := by
  cases r <;> cases q <;> first | rfl | exact absurd rfl hne

@[simp] theorem setReg_f (r : Reg8) (v : Byte) (s : State) : (setReg r v s).f = s.f := by cases r <;> rfl
@[simp] theorem setReg_sp (r : Reg8) (v : Byte) (s : State) : (setReg r v s).sp = s.sp := by cases r <;> rfl
@[simp] theorem setReg_pc (r : Reg8) (v : Byte) (s : State) : (setReg r v s).pc = s.pc := by cases r <;> rfl
@[simp] theorem setReg_ime (r : Reg8) (v : Byte) (s : State) : (setReg r v s).ime = s.ime := by cases r <;> rfl
@[simp] theorem setReg_halted (r : Reg8) (v : Byte) (s : State) : (setReg r v s).halted = s.halted := by cases r <;> rfl
@[simp] theorem setReg_status (r : Reg8) (v : Byte) (s : State) : (setReg r v s).status = s.status := by cases r <;> rfl
@[simp] theorem setReg_wram (r : Reg8) (v : Byte) (s : State) : (setReg r v s).wram = s.wram := by cases r <;> rfl
@[simp] theorem setReg_hram (r : Reg8) (v : Byte) (s : State) : (setReg r v s).hram = s.hram := by cases r <;> rfl
@[simp] theorem setReg_ie (r : Reg8) (v : Byte) (s : State) : (setReg r v s).ie = s.ie := by cases r <;> rfl
@[simp] theorem setReg_mapperMode (r : Reg8) (v : Byte) (s : State) : (setReg r v s).mapperMode = s.mapperMode := by cases r <;> rfl
@[simp] theorem setReg_romBank (r : Reg8) (v : Byte) (s : State) : (setReg r v s).romBank = s.romBank := by cases r <;> rfl
@[simp] theorem setReg_cartRam (r : Reg8) (v : Byte) (s : State) : (setReg r v s).cartRam = s.cartRam := by cases r <;> rfl
@[simp] theorem setReg_serialLine (r : Reg8) (v : Byte) (s : State) : (setReg r v s).serialLine = s.serialLine := by cases r <;> rfl
@[simp] theorem setReg_serialOut (r : Reg8) (v : Byte) (s : State) : (setReg r v s).serialOut = s.serialOut := by cases r <;> rfl
@[simp] theorem setReg_params (r : Reg8) (v : Byte) (s : State) : (setReg r v s).params = s.params := by cases r <;> rfl
@[simp] theorem setReg_draws (r : Reg8) (v : Byte) (s : State) : (setReg r v s).draws = s.draws := by cases r <;> rfl

/-! ### setPair writes the registers of one pair -/

@[simp] theorem setPair_pc (rr : Reg16) (v : Word) (s : State) : (setPair rr v s).pc = s.pc := by cases rr <;> rfl
@[simp] theorem setPair_ime (rr : Reg16) (v : Word) (s : State) : (setPair rr v s).ime = s.ime := by cases rr <;> rfl
@[simp] theorem setPair_halted (rr : Reg16) (v : Word) (s : State) : (setPair rr v s).halted = s.halted := by cases rr <;> rfl
@[simp] theorem setPair_status (rr : Reg16) (v : Word) (s : State) : (setPair rr v s).status = s.status := by cases rr <;> rfl
@[simp] theorem setPair_wram (rr : Reg16) (v : Word) (s : State) : (setPair rr v s).wram = s.wram := by cases rr <;> rfl
@[simp] theorem setPair_hram (rr : Reg16) (v : Word) (s : State) : (setPair rr v s).hram = s.hram := by cases rr <;> rfl
@[simp] theorem setPair_ie (rr : Reg16) (v : Word) (s : State) : (setPair rr v s).ie = s.ie := by cases rr <;> rfl
@[simp] theorem setPair_mapperMode (rr : Reg16) (v : Word) (s : State) : (setPair rr v s).mapperMode = s.mapperMode := by cases rr <;> rfl
@[simp] theorem setPair_romBank (rr : Reg16) (v : Word) (s : State) : (setPair rr v s).romBank = s.romBank := by cases rr <;> rfl
@[simp] theorem setPair_cartRam (rr : Reg16) (v : Word) (s : State) : (setPair rr v s).cartRam = s.cartRam := by cases rr <;> rfl
@[simp] theorem setPair_serialLine (rr : Reg16) (v : Word) (s : State) : (setPair rr v s).serialLine = s.serialLine := by cases rr <;> rfl
@[simp] theorem setPair_serialOut (rr : Reg16) (v : Word) (s : State) : (setPair rr v s).serialOut = s.serialOut := by cases rr <;> rfl
@[simp] theorem setPair_params (rr : Reg16) (v : Word) (s : State) : (setPair rr v s).params = s.params := by cases rr <;> rfl
@[simp] theorem setPair_draws (rr : Reg16) (v : Word) (s : State) : (setPair rr v s).draws = s.draws := by cases rr <;> rfl

theorem setPair_sp_of_ne {rr : Reg16} (hne : rr ≠ .SP) (v : Word) (s : State) : (setPair rr v s).sp = s.sp := by
  cases rr <;> first | rfl | exact absurd rfl hne

theorem setPair_f_of_ne {rr : Reg16} (hne : rr ≠ .AF) (v : Word) (s : State) : (setPair rr v s).f = s.f := by
  cases rr <;> first | rfl | exact absurd rfl hne


/-! ### serialPut writes the serial buffers alone -/

@[simp] theorem serialPut_a (v : Byte) (s : State) : (serialPut v s).a = s.a := by unfold serialPut; split <;> rfl
@[simp] theorem serialPut_f (v : Byte) (s : State) : (serialPut v s).f = s.f := by unfold serialPut; split <;> rfl
@[simp] theorem serialPut_b (v : Byte) (s : State) : (serialPut v s).b = s.b := by unfold serialPut; split <;> rfl
@[simp] theorem serialPut_c (v : Byte) (s : State) : (serialPut v s).c = s.c := by unfold serialPut; split <;> rfl
@[simp] theorem serialPut_d (v : Byte) (s : State) : (serialPut v s).d = s.d := by unfold serialPut; split <;> rfl
@[simp] theorem serialPut_e (v : Byte) (s : State) : (serialPut v s).e = s.e := by unfold serialPut; split <;> rfl
@[simp] theorem serialPut_h (v : Byte) (s : State) : (serialPut v s).h = s.h := by unfold serialPut; split <;> rfl
@[simp] theorem serialPut_l (v : Byte) (s : State) : (serialPut v s).l = s.l := by unfold serialPut; split <;> rfl
@[simp] theorem serialPut_sp (v : Byte) (s : State) : (serialPut v s).sp = s.sp := by unfold serialPut; split <;> rfl
@[simp] theorem serialPut_pc (v : Byte) (s : State) : (serialPut v s).pc = s.pc := by unfold serialPut; split <;> rfl
@[simp] theorem serialPut_ime (v : Byte) (s : State) : (serialPut v s).ime = s.ime := by unfold serialPut; split <;> rfl
@[simp] theorem serialPut_halted (v : Byte) (s : State) : (serialPut v s).halted = s.halted := by unfold serialPut; split <;> rfl
@[simp] theorem serialPut_status (v : Byte) (s : State) : (serialPut v s).status = s.status := by unfold serialPut; split <;> rfl
@[simp] theorem serialPut_wram (v : Byte) (s : State) : (serialPut v s).wram = s.wram := by unfold serialPut; split <;> rfl
@[simp] theorem serialPut_hram (v : Byte) (s : State) : (serialPut v s).hram = s.hram := by unfold serialPut; split <;> rfl
@[simp] theorem serialPut_ie (v : Byte) (s : State) : (serialPut v s).ie = s.ie := by unfold serialPut; split <;> rfl
@[simp] theorem serialPut_mapperMode (v : Byte) (s : State) : (serialPut v s).mapperMode = s.mapperMode := by unfold serialPut; split <;> rfl
@[simp] theorem serialPut_romBank (v : Byte) (s : State) : (serialPut v s).romBank = s.romBank := by unfold serialPut; split <;> rfl
@[simp] theorem serialPut_cartRam (v : Byte) (s : State) : (serialPut v s).cartRam = s.cartRam := by unfold serialPut; split <;> rfl
@[simp] theorem serialPut_params (v : Byte) (s : State) : (serialPut v s).params = s.params := by unfold serialPut; split <;> rfl
@[simp] theorem serialPut_draws (v : Byte) (s : State) : (serialPut v s).draws = s.draws := by unfold serialPut; split <;> rfl

/-! ### afterRead writes the model's own draw counter alone -/

@[simp] theorem afterRead_a (addr : Word) (s : State) : (afterRead addr s).a = s.a := by unfold afterRead; split <;> rfl
@[simp] theorem afterRead_f (addr : Word) (s : State) : (afterRead addr s).f = s.f := by unfold afterRead; split <;> rfl
@[simp] theorem afterRead_b (addr : Word) (s : State) : (afterRead addr s).b = s.b := by unfold afterRead; split <;> rfl
@[simp] theorem afterRead_c (addr : Word) (s : State) : (afterRead addr s).c = s.c := by unfold afterRead; split <;> rfl
@[simp] theorem afterRead_d (addr : Word) (s : State) : (afterRead addr s).d = s.d := by unfold afterRead; split <;> rfl
@[simp] theorem afterRead_e (addr : Word) (s : State) : (afterRead addr s).e = s.e := by unfold afterRead; split <;> rfl
@[simp] theorem afterRead_h (addr : Word) (s : State) : (afterRead addr s).h = s.h := by unfold afterRead; split <;> rfl
@[simp] theorem afterRead_l (addr : Word) (s : State) : (afterRead addr s).l = s.l := by unfold afterRead; split <;> rfl
@[simp] theorem afterRead_sp (addr : Word) (s : State) : (afterRead addr s).sp = s.sp := by unfold afterRead; split <;> rfl
@[simp] theorem afterRead_pc (addr : Word) (s : State) : (afterRead addr s).pc = s.pc := by unfold afterRead; split <;> rfl
@[simp] theorem afterRead_ime (addr : Word) (s : State) : (afterRead addr s).ime = s.ime := by unfold afterRead; split <;> rfl
@[simp] theorem afterRead_halted (addr : Word) (s : State) : (afterRead addr s).halted = s.halted := by unfold afterRead; split <;> rfl
@[simp] theorem afterRead_status (addr : Word) (s : State) : (afterRead addr s).status = s.status := by unfold afterRead; split <;> rfl
@[simp] theorem afterRead_wram (addr : Word) (s : State) : (afterRead addr s).wram = s.wram := by unfold afterRead; split <;> rfl
@[simp] theorem afterRead_hram (addr : Word) (s : State) : (afterRead addr s).hram = s.hram := by unfold afterRead; split <;> rfl
@[simp] theorem afterRead_ie (addr : Word) (s : State) : (afterRead addr s).ie = s.ie := by unfold afterRead; split <;> rfl
@[simp] theorem afterRead_mapperMode (addr : Word) (s : State) : (afterRead addr s).mapperMode = s.mapperMode := by unfold afterRead; split <;> rfl
@[simp] theorem afterRead_romBank (addr : Word) (s : State) : (afterRead addr s).romBank = s.romBank := by unfold afterRead; split <;> rfl
@[simp] theorem afterRead_cartRam (addr : Word) (s : State) : (afterRead addr s).cartRam = s.cartRam := by unfold afterRead; split <;> rfl
@[simp] theorem afterRead_serialLine (addr : Word) (s : State) : (afterRead addr s).serialLine = s.serialLine := by unfold afterRead; split <;> rfl
@[simp] theorem afterRead_serialOut (addr : Word) (s : State) : (afterRead addr s).serialOut = s.serialOut := by unfold afterRead; split <;> rfl
@[simp] theorem afterRead_params (addr : Word) (s : State) : (afterRead addr s).params = s.params := by unfold afterRead; split <;> rfl

theorem afterRead_of_ne_serial {addr : Word} (h : region addr ≠ .serial) (s : State) : afterRead addr s = s :=
  if_neg h

end Sys2Proof.Machine
end

