-- ==== Sys2Proof/Laws/Ops.lean ====
section
/-! SUPPORT. What each shared operation can do, said once: later proofs cite these and unfold no operation. -/

namespace Sys2Proof.Machine

/-! ### Parts of a step in sequence -/

@[simp] theorem andThen_done {α β : Type} (v : α) (s : State) (k : α → State → Access β) :
    (Access.done v s).andThen k = k v s := rfl

@[simp] theorem andThen_raised {α β : Type} (f : FaultRecord) (s : State) (k : α → State → Access β) :
    (Access.raised f s : Access α).andThen k = .raised f s := rfl

@[simp] theorem finish_done (s : State) : finish (.done () s) = .next s := rfl

@[simp] theorem finish_raised (f : FaultRecord) (s : State) : finish (.raised f s) = .next (enterFault f s) := rfl

/-- A sequence is done exactly when both its parts are. -/
theorem andThen_eq_done {α β : Type} {r : Access α} {k : α → State → Access β} {w : β} {t : State} :
    r.andThen k = .done w t ↔ ∃ v s1, r = .done v s1 ∧ k v s1 = .done w t := by
  cases r with
  | done v s1 => simp
  | raised f s1 => simp

/-- Execute always answers a next state: done, or faulted. -/
theorem finish_cases (r : Access Unit) :
    (∃ s, r = .done () s ∧ finish r = .next s) ∨ (∃ f s, r = .raised f s ∧ finish r = .next (enterFault f s)) := by
  cases r with
  | done v s => exact .inl ⟨s, rfl, rfl⟩
  | raised f s => exact .inr ⟨f, s, rfl, rfl⟩

/-! ### Reads -/

theorem readByte_of_ok {addr : Word} {s : State} {v : Byte} (h : readValue addr s = .ok v) :
    readByte addr s = .done v (afterRead addr s) := by
  simp [readByte, h]

theorem readByte_of_error {addr : Word} {s : State} {f : FaultRecord} (h : readValue addr s = .error f) :
    readByte addr s = .raised f s := by
  simp [readByte, h]

/-- A read that is done gives the value at the address and moves at most the draw counter. -/
theorem readByte_eq_done {addr : Word} {s t : State} {v : Byte} :
    readByte addr s = .done v t ↔ readValue addr s = .ok v ∧ t = afterRead addr s := by
  unfold readByte
  cases readValue addr s with
  | ok w => simp [eq_comm]
  | error f => simp

/-- A read that faults changes nothing. -/
theorem readByte_eq_raised {addr : Word} {s t : State} {f : FaultRecord} :
    readByte addr s = .raised f t ↔ readValue addr s = .error f ∧ t = s := by
  unfold readByte
  cases readValue addr s with
  | ok w => simp
  | error g => simp [eq_comm]

/-! ### Writes -/

/-- A write that is done changes at most the byte stores, the mapper and the serial buffers. -/
theorem writeByte_keeps {addr : Word} {v : Byte} {s t : State} {u : Unit} (h : writeByte addr v s = .done u t) :
    t = { s with
      ie := t.ie, hram := t.hram, wram := t.wram, cartRam := t.cartRam, romBank := t.romBank
      mapperMode := t.mapperMode, serialLine := t.serialLine, serialOut := t.serialOut } := by
  unfold writeByte at h
  split at h
  case h_4 => cases h; unfold serialPut; split <;> rfl
  case h_10 => split at h <;> (cases h; rfl)
  case h_12 =>
    unfold mapperWrite at h
    split at h
    · cases h; rfl
    · split at h
      · cases h; rfl
      · cases h
  case h_13 =>
    unfold mapperWrite at h
    split at h
    · cases h; rfl
    · split at h
      · cases h; rfl
      · cases h
  all_goals (cases h; rfl)

/-- A write that faults changes nothing, and its record is that of the mapper. -/
theorem writeByte_raised {addr : Word} {v : Byte} {s t : State} {f : FaultRecord}
    (h : writeByte addr v s = .raised f t) : t = s ∧ f = .mapperConfigFault addr v := by
  unfold writeByte at h
  split at h
  case h_10 => split at h <;> cases h
  case h_12 =>
    unfold mapperWrite at h
    split at h
    · cases h
    · split at h
      · cases h
      · cases h; exact ⟨rfl, rfl⟩
  case h_13 =>
    unfold mapperWrite at h
    split at h
    · cases h
    · split at h
      · cases h
      · cases h; exact ⟨rfl, rfl⟩
  all_goals cases h

end Sys2Proof.Machine
end

