-- ==== Sys2Proof/Laws/Access.lean ====
section
/-! SUPPORT. Which accesses raise no fault, what a read reads, and what a read leaves alone, in the terms of
Sys2Proof/Safety.lean. -/

namespace Sys2Proof.Machine

/-! ### Reads -/

/-- A readable address gives a byte. -/
theorem readValue_of_readable {addr : Word} {s : State} (h : Readable addr s) : ∃ v, readValue addr s = .ok v := by
  unfold readValue
  cases hr : region addr with
  | cartRam => cases s.params.cartRamMode <;> exact ⟨_, rfl⟩
  | romBank => exact ⟨_, by simp only [romRead, h ((region_rom_iff addr).1 (.inl hr)), if_true]; rfl⟩
  | romFixed => exact ⟨_, by simp only [romRead, h ((region_rom_iff addr).1 (.inr hr)), if_true]; rfl⟩
  | _ => exact ⟨_, rfl⟩

/-- An address that is not readable raises RomRangeFault with the address. -/
theorem readValue_of_not_readable {addr : Word} {s : State} (h : ¬ Readable addr s) :
    readValue addr s = .error (.romRangeFault addr) := by
  simp only [Readable, not_forall] at h
  obtain ⟨hlt, hlen⟩ := h
  unfold readValue
  rcases (region_rom_iff addr).2 hlt with hr | hr <;> rw [hr] <;> simp only [romRead, hlen, if_false]

/-- A read gives a byte exactly where it is readable. -/
theorem readValue_isOk_iff {addr : Word} {s : State} : (∃ v, readValue addr s = .ok v) ↔ Readable addr s := by
  refine ⟨fun ⟨v, hv⟩ => ?_, readValue_of_readable⟩
  by_contra h
  rw [readValue_of_not_readable h] at hv
  cases hv

/-- An address at or above 0x8000 is readable in every state. -/
theorem readable_of_ge {addr : Word} {s : State} (h : 0x8000 ≤ addr.toNat) : Readable addr s :=
  fun hlt => absurd hlt (by omega)

/-- What a read gives depends on memory, the bank, the parameters and the draw counter alone. -/
theorem readValue_congr {s t : State} (addr : Word) (hp : t.params = s.params) (hb : t.romBank = s.romBank)
    (hw : t.wram = s.wram) (hh : t.hram = s.hram) (hi : t.ie = s.ie) (hc : t.cartRam = s.cartRam)
    (hd : t.draws = s.draws) : readValue addr t = readValue addr s := by
  unfold readValue romRead romIndex
  rw [hp, hb, hw, hh, hi, hc, hd]

/-- What a read gives, but for the serial port, depends on memory, the bank and the parameters alone. -/
theorem readValue_congr_of_ne {s t : State} {addr : Word} (hne : addr ≠ 0xFF01) (hp : t.params = s.params)
    (hb : t.romBank = s.romBank) (hw : t.wram = s.wram) (hh : t.hram = s.hram) (hi : t.ie = s.ie)
    (hc : t.cartRam = s.cartRam) : readValue addr t = readValue addr s := by
  have hs : region addr ≠ .serial := by
    rw [Ne, region_serial_iff]
    exact fun e => hne (BitVec.eq_of_toNat_eq e)
  unfold readValue romRead romIndex
  rw [hp, hb, hw, hh, hi, hc]
  cases hr : region addr with
  | serial => exact absurd hr hs
  | _ => rfl

/-- A read leaves everything but the draw counter. -/
theorem afterRead_eq (addr : Word) (s : State) : afterRead addr s = { s with draws := (afterRead addr s).draws } := by
  unfold afterRead
  split <;> rfl

/-- Reads change the model's draw counter alone. -/
theorem afterReads_eq (n : Nat) (addr : Word) (s : State) :
    afterReads addr n s = { s with draws := (afterReads addr n s).draws } := by
  induction n generalizing addr s with
  | zero => rfl
  | succ n ih => rw [afterReads, ih, afterRead_eq]

@[simp] theorem afterReads_pc (n : Nat) (addr : Word) (s : State) : (afterReads addr n s).pc = s.pc := by
  rw [afterReads_eq]

/-- A read anywhere but at the serial port changes nothing at all. -/
theorem afterRead_of_ne {addr : Word} (h : addr ≠ 0xFF01) (s : State) : afterRead addr s = s := by
  unfold afterRead
  rw [if_neg]
  rw [region_serial_iff]
  exact fun e => h (BitVec.eq_of_toNat_eq e)

/-- A read elsewhere does not change what an address gives. -/
theorem readValue_afterRead {addr other : Word} (h : addr ≠ other) (s : State) :
    readValue addr (afterRead other s) = readValue addr s := by
  by_cases ho : other = 0xFF01
  · subst ho
    rw [afterRead_eq]
    exact readValue_congr_of_ne h rfl rfl rfl rfl rfl rfl
  · rw [afterRead_of_ne ho]

theorem readable_afterRead {addr other : Word} {s : State} : Readable addr (afterRead other s) ↔ Readable addr s := by
  rw [afterRead_eq]
  exact Iff.rfl

/-- The next address is another one. -/
theorem succ_ne (addr : Word) : addr + 1 ≠ addr := by
  intro h
  have := congrArg BitVec.toNat h
  have := addr.isLt
  simp at *

/-! ### Writes -/

/-- A write to a writable address is done. -/
theorem writeByte_of_writable {addr : Word} (h : Writable addr) (v : Byte) (s : State) :
    ∃ t, writeByte addr v s = .done () t := by
  have mapper : addr.toNat < 0x8000 → ∃ t, mapperWrite addr v s = .done () t := by
    intro hlt
    unfold mapperWrite
    rcases h hlt with h1 | h1
    · exact ⟨_, if_pos h1⟩
    · exact ⟨_, by rw [if_neg (by omega), if_pos h1]⟩
  unfold writeByte
  cases hr : region addr with
  | cartRam => cases s.params.cartRamMode <;> exact ⟨_, rfl⟩
  | romBank => exact mapper ((region_rom_iff addr).1 (.inl hr))
  | romFixed => exact mapper ((region_rom_iff addr).1 (.inr hr))
  | _ => exact ⟨_, rfl⟩

/-- A write to an address that is not writable raises MapperConfigFault and changes nothing. -/
theorem writeByte_of_not_writable {addr : Word} (h : ¬ Writable addr) (v : Byte) (s : State) :
    writeByte addr v s = .raised (.mapperConfigFault addr v) s := by
  simp only [Writable, not_forall, not_or] at h
  obtain ⟨hlt, h1, h2⟩ := h
  have mapper : mapperWrite addr v s = .raised (.mapperConfigFault addr v) s := by
    unfold mapperWrite
    rw [if_neg h1, if_neg h2]
  unfold writeByte
  rcases (region_rom_iff addr).2 hlt with hr | hr <;> rw [hr] <;> exact mapper

/-- An address at or above 0x8000 is writable. -/
theorem writable_of_ge {addr : Word} (h : 0x8000 ≤ addr.toNat) : Writable addr :=
  fun hlt => absurd hlt (by omega)

/-! ### Bytes of words -/

theorem wordOfBytes_toNat (hi lo : Byte) : (wordOfBytes hi lo).toNat = hi.toNat * 256 + lo.toNat := by
  have := lo.isLt
  simp only [wordOfBytes, BitVec.toNat_append]
  rw [Nat.shiftLeft_eq, Nat.mul_comm, ← Nat.two_pow_add_eq_or_of_lt (i := 8) (by omega) hi.toNat, Nat.mul_comm]

theorem highByte_toNat (v : Word) : (highByte v).toNat = v.toNat / 256 := by
  have := v.isLt
  simp only [highByte, BitVec.extractLsb'_toNat, Nat.shiftRight_eq_div_pow]
  omega

theorem lowByte_toNat (v : Word) : (lowByte v).toNat = v.toNat % 256 := by
  simp [lowByte, BitVec.extractLsb'_toNat]

@[simp] theorem highByte_wordOfBytes (hi lo : Byte) : highByte (wordOfBytes hi lo) = hi := by
  apply BitVec.eq_of_toNat_eq
  rw [highByte_toNat, wordOfBytes_toNat]
  have := lo.isLt
  omega

@[simp] theorem lowByte_wordOfBytes (hi lo : Byte) : lowByte (wordOfBytes hi lo) = lo := by
  apply BitVec.eq_of_toNat_eq
  rw [lowByte_toNat, wordOfBytes_toNat]
  have := lo.isLt
  omega

@[simp] theorem wordOfBytes_bytes (v : Word) : wordOfBytes (highByte v) (lowByte v) = v := by
  apply BitVec.eq_of_toNat_eq
  rw [wordOfBytes_toNat, highByte_toNat, lowByte_toNat]
  omega

/-! ### The high page -/

/-- The high page lies at 0xFF00 and above. -/
theorem highPage_toNat (b : Byte) : (highPage b).toNat = 0xFF00 + b.toNat := by
  have := b.isLt
  rw [highPage, BitVec.toNat_add, BitVec.toNat_setWidth, show (0xFF00 : Word).toNat = 0xFF00 from rfl]
  omega

theorem highPage_eq (b : Byte) : highPage b = wordOfBytes 0xFF b := by
  apply BitVec.eq_of_toNat_eq
  rw [highPage_toNat, wordOfBytes_toNat, show (0xFF : Byte).toNat = 255 from rfl]

end Sys2Proof.Machine
end

