-- ==== Sys2Proof/Laws/Answers.lean ====
section
/-! SUPPORT. What the shared operations answer, in the terms of Sys2Proof/Safety.lean: one lemma for each shape of
operand, so that a proof about an instruction cites one and unfolds no operation. -/

namespace Sys2Proof.Machine

/-! ### One byte -/

/-- A readable byte, then `post`. -/
theorem finish_readByte_of_readable {addr : Word} {s : State} (h : Readable addr s)
    (post : Byte → State → Access Unit) :
    ∃ v, readValue addr s = .ok v ∧
      finish ((readByte addr s).andThen post) = finish (post v (afterRead addr s)) := by
  obtain ⟨v, hv⟩ := readValue_of_readable h
  exact ⟨v, hv, by rw [readByte_of_ok hv, andThen_done]⟩

/-- An unreadable byte: its fault, and `post` is not done. -/
theorem finish_readByte_of_not_readable {addr : Word} {s : State} (h : ¬ Readable addr s)
    (post : Byte → State → Access Unit) :
    finish ((readByte addr s).andThen post) = .next (enterFault (.romRangeFault addr) s) := by
  rw [readByte_of_error (readValue_of_not_readable h), andThen_raised, finish_raised]

/-- A load of a register from memory. -/
theorem loadsByte_of_read (d : Reg8) (addr : Word) (s : State) :
    LoadsByte (finish ((readByte addr s).andThen fun v s1 => .done () (setReg d v s1))) d addr s := by
  refine ⟨fun h => ?_, fun h => finish_readByte_of_not_readable h _⟩
  obtain ⟨v, hv, hr⟩ := finish_readByte_of_readable h fun v s1 => .done () (setReg d v s1)
  exact ⟨v, hv, hr⟩

/-- A store of a byte. -/
theorem storesByte_of_write (addr : Word) (v : Byte) (s : State) : StoresByte (finish (writeByte addr v s)) addr v s := by
  refine ⟨fun h => ?_, fun h => by rw [writeByte_of_not_writable h, finish_raised]⟩
  obtain ⟨t, ht⟩ := writeByte_of_writable h v s
  exact ⟨t, ht, by rw [ht, finish_done]⟩

/-- `LD r,` of a memory operand (40_load8.md R141, R145, R146, R154, R156, R158). -/
theorem load8_loads (d : Reg8) {l : Loc8} {addr : Word} {s : State} (h : locAddr l s = some addr) :
    LoadsByte (load8 (.reg d) (.loc l) s) d addr s := by
  cases l <;> cases h <;> exact loadsByte_of_read d _ s

/-- `LD` of a memory operand from a register or an immediate (40_load8.md R142, R144, R147, R148, R153, R155, R157). -/
theorem load8_stores {l : Loc8} {addr : Word} {src : Src8} {v : Byte} {s : State} (h : locAddr l s = some addr)
    (hv : readSrc src s = .done v s) : StoresByte (load8 l src s) addr v s := by
  unfold load8
  rw [hv, andThen_done]
  cases l <;> cases h <;> exact storesByte_of_write _ v s

/-! ### One word -/

/-- A word store and then `post`. -/
theorem storesWord_of_write (addr v : Word) (s : State) (post : State → State) :
    StoresWord (finish ((writeWord addr v s).andThen fun _ t => .done () (post t))) addr v s post := by
  unfold writeWord
  refine ⟨fun h1 h2 => ?_, fun h => ?_, fun h1 h2 => ?_⟩
  · obtain ⟨s1, hs1⟩ := writeByte_of_writable h1 (lowByte v) s
    obtain ⟨t, ht⟩ := writeByte_of_writable h2 (highByte v) s1
    exact ⟨s1, t, hs1, ht, by rw [hs1, andThen_done, ht, andThen_done, finish_done]⟩
  · rw [writeByte_of_not_writable h, andThen_raised, andThen_raised, finish_raised]
  · obtain ⟨s1, hs1⟩ := writeByte_of_writable h1 (lowByte v) s
    exact ⟨s1, hs1, by rw [hs1, andThen_done, writeByte_of_not_writable h2, andThen_raised, finish_raised]⟩

/-- A word store alone. -/
theorem storesWord_of_write' (addr v : Word) (s : State) :
    StoresWord (finish (writeWord addr v s)) addr v s id := by
  have h := storesWord_of_write addr v s id
  have e : (writeWord addr v s).andThen (fun _ t => .done () (id t)) = writeWord addr v s := by
    cases writeWord addr v s <;> rfl
  rwa [e] at h

/-- A word load and then `post`. -/
theorem loadsWord_of_read (addr : Word) (s : State) (post : Word → State → State) :
    LoadsWord (finish ((readWord addr s).andThen fun v t => .done () (post v t))) addr s post := by
  have hne : addr + 1 ≠ addr := succ_ne addr
  unfold readWord
  refine ⟨fun h1 h2 => ?_, fun h => ?_, fun h1 h2 => ?_⟩
  · obtain ⟨lo, hlo⟩ := readValue_of_readable h1
    obtain ⟨hi, hhi⟩ := readValue_of_readable h2
    refine ⟨lo, hi, hlo, hhi, ?_⟩
    rw [readByte_of_ok hlo, andThen_done, readByte_of_ok ((readValue_afterRead hne s).trans hhi)]
    rfl
  · rw [readByte_of_error (readValue_of_not_readable h)]
    rfl
  · obtain ⟨lo, hlo⟩ := readValue_of_readable h1
    rw [readByte_of_ok hlo, andThen_done,
      readByte_of_error (readValue_of_not_readable (mt readable_afterRead.1 h2))]
    rfl

/-- `Push16(v)` and then `post`. -/
theorem storesWord_of_push (v : Word) (s : State) (post : State → State) :
    StoresWord (finish ((push16 v s).andThen fun _ t => .done () (post t))) (s.sp - 2) v { s with sp := s.sp - 2 } post :=
  storesWord_of_write _ v _ post

/-- `Pop16()` and then `post`. -/
theorem loadsWord_of_pop (s : State) (post : Word → State → State) :
    LoadsWord (finish ((pop16 s).andThen fun v t => .done () (post v t))) s.sp s
      fun v t => post v { t with sp := s.sp + 2 } := by
  have h := loadsWord_of_read s.sp s fun v t => post v { t with sp := t.sp + 2 }
  have e : (pop16 s).andThen (fun v t => .done () (post v t)) =
      (readWord s.sp s).andThen fun v t => .done () (post v { t with sp := t.sp + 2 }) := by
    unfold pop16
    cases readWord s.sp s <;> rfl
  have hsp : ∀ addr t, (afterRead addr t).sp = t.sp := fun addr t => by rw [afterRead_eq]
  rw [e]
  refine ⟨fun h1 h2 => ?_, h.2⟩
  obtain ⟨lo, hi, hlo, hhi, hr⟩ := h.1 h1 h2
  refine ⟨lo, hi, hlo, hhi, hr.trans ?_⟩
  simp only [afterReads, hsp]

/-! ### A register or (HL) -/

/-- A Get of a target is done where the target is readable. -/
theorem readLoc_target {t : Target} {s : State} (h : TargetReadable t s) :
    ∃ v s1, TargetGives t s v s1 ∧ readLoc (targetLoc t) s = .done v s1 := by
  cases t with
  | reg r => exact ⟨_, _, ⟨rfl, rfl⟩, rfl⟩
  | mHL =>
    obtain ⟨v, hv⟩ := readValue_of_readable (show Readable (getPair .HL s) s from h)
    exact ⟨v, _, ⟨hv, rfl⟩, readByte_of_ok hv⟩

/-- A Get of a target that is not readable raises the read-fault at HL. -/
theorem readLoc_target_fault {t : Target} {s : State} (h : ¬ TargetReadable t s) :
    readLoc (targetLoc t) s = .raised (.romRangeFault (getPair .HL s)) s := by
  cases t with
  | reg r => exact absurd trivial h
  | mHL => exact readByte_of_error (readValue_of_not_readable h)

/-- A Get changes nothing but the draw counter. -/
theorem TargetGives.eq {t : Target} {s s1 : State} {v : Byte} (h : TargetGives t s v s1) :
    s1 = { s with draws := s1.draws } := by
  cases t with
  | reg r => rw [h.2]
  | mHL => rw [h.2]; exact afterRead_eq _ s

/-- A Put on a target, after a Get of it. -/
theorem writeLoc_target {t : Target} {s s1 : State} {w : Byte} (h1 : TargetGives t s w s1)
    (h : TargetWritable t s) (v : Byte) : ∃ s2, TargetTakes t v s1 s2 ∧ writeLoc (targetLoc t) v s1 = .done () s2 := by
  cases t with
  | reg r => exact ⟨_, rfl, rfl⟩
  | mHL =>
    have e : getPair .HL s1 = getPair .HL s := by rw [h1.eq]; rfl
    obtain ⟨s2, h2⟩ := writeByte_of_writable (show Writable (getPair .HL s) from h) v s1
    rw [← e] at h2
    exact ⟨s2, h2, h2⟩

/-- A Put on a target that is not writable raises the write-fault at HL. -/
theorem writeLoc_target_fault {t : Target} {s s1 : State} {w : Byte} (h1 : TargetGives t s w s1)
    (h : ¬ TargetWritable t s) (v : Byte) :
    writeLoc (targetLoc t) v s1 = .raised (.mapperConfigFault (getPair .HL s) v) s1 := by
  cases t with
  | reg r => exact absurd trivial h
  | mHL =>
    have e : getPair .HL s1 = getPair .HL s := by rw [h1.eq]; rfl
    show writeByte (getPair .HL s1) v s1 = _
    rw [e]
    exact writeByte_of_not_writable h v s1

/-- One Get and then `post`. -/
theorem getsTarget_of_read (t : Target) (s : State) (post : Byte → State → State) :
    GetsTarget (finish ((readLoc (targetLoc t) s).andThen fun v s1 => .done () (post v s1))) t s post := by
  refine ⟨fun h => ?_, fun h => by rw [readLoc_target_fault h, andThen_raised, finish_raised]⟩
  obtain ⟨v, s1, hg, hr⟩ := readLoc_target h
  exact ⟨v, s1, hg, by rw [hr, andThen_done, finish_done]⟩

/-- One Get, one Put of `res` of it, and then `post`, which may use the value. -/
theorem updatesTarget_of_write (t : Target) (s : State) (res : Byte → Byte) (post : Byte → State → State) :
    UpdatesTarget (finish ((readLoc (targetLoc t) s).andThen fun v s1 =>
      (writeLoc (targetLoc t) (res v) s1).andThen fun _ s2 => .done () (post v s2))) t s res post := by
  refine ⟨fun h1 h2 => ?_, fun h => by rw [readLoc_target_fault h, andThen_raised, finish_raised], fun h1 h2 => ?_⟩
  · obtain ⟨v, s1, hg, hr⟩ := readLoc_target h1
    obtain ⟨s2, ht, hw⟩ := writeLoc_target hg h2 (res v)
    exact ⟨v, s1, s2, hg, ht, by rw [hr, andThen_done, hw, andThen_done, finish_done]⟩
  · obtain ⟨v, s1, hg, hr⟩ := readLoc_target h1
    exact ⟨v, s1, hg, by
      rw [hr, andThen_done, writeLoc_target_fault hg h2 (res v), andThen_raised, finish_raised]⟩

/-- A write to a target leaves F alone. -/
theorem writeLoc_f {l : Loc8} {v : Byte} {s t : State} {u : Unit} (h : writeLoc l v s = .done u t) : t.f = s.f := by
  cases l with
  | reg r => cases h; cases r <;> rfl
  | _ => rw [writeByte_keeps h]

end Sys2Proof.Machine
end

