-- ==== Sys2Proof/Laws/Arrays.lean ====
section
/-! SUPPORT. Every memory operation keeps the canonical form and the sizes of the RAM arrays, and the state right after
reset has them (10_state.md R35, R36, R40). -/

namespace Sys2Proof.Machine

/-- The three RAM arrays have their sizes and the canonical form. -/
abbrev Arrays (s : State) : Prop := ArrayOf 0x2000 s.wram ∧ ArrayOf 0x80 s.hram ∧ ArrayOf 0x2000 s.cartRam

theorem reset_arrays : Arrays State.reset := by decide

/-- A write at an index of an array leaves an array. -/
theorem ArrayOf.write {n i : Nat} {m : Memory} (h : ArrayOf n m) (hi : i < n) (v : Byte) :
    ArrayOf n (Memory.write m i v) :=
  ⟨Memory.write_wf m i v h.1, Memory.write_below m i v n hi h.2⟩

theorem mapperWrite_arrays {addr : Word} {v : Byte} {s t : State} {u : Unit}
    (h : mapperWrite addr v s = .done u t) (hs : Arrays s) : Arrays t := by
  unfold mapperWrite at h
  split at h
  · cases h; exact hs
  · split at h <;> cases h
    exact hs

/-- A write of a byte keeps the arrays. -/
theorem writeByte_arrays {addr : Word} {v : Byte} {s t : State} {u : Unit} (h : writeByte addr v s = .done u t)
    (hs : Arrays s) : Arrays t := by
  unfold writeByte at h
  split at h
  case h_2 hr =>
    rw [region_hram_iff] at hr
    cases h
    exact ⟨hs.1, hs.2.1.write (by omega) v, hs.2.2⟩
  case h_4 => cases h; unfold serialPut; split <;> exact hs
  case h_8 hr =>
    rw [region_echo_iff] at hr
    cases h
    exact ⟨hs.1.write (by omega) v, hs.2⟩
  case h_9 hr =>
    rw [region_wram_iff] at hr
    cases h
    exact ⟨hs.1.write (by omega) v, hs.2⟩
  case h_10 hr =>
    rw [region_cartRam_iff] at hr
    split at h <;> cases h
    · exact hs
    · exact ⟨hs.1, hs.2.1, hs.2.2.write (by omega) v⟩
  case h_12 => exact mapperWrite_arrays h hs
  case h_13 => exact mapperWrite_arrays h hs
  all_goals (cases h; exact hs)

/-- A read of a byte keeps the arrays. -/
theorem readByte_arrays {addr : Word} {v : Byte} {s t : State} (h : readByte addr s = .done v t) (hs : Arrays s) :
    Arrays t := by
  rw [(readByte_eq_done.1 h).2]
  unfold afterRead
  split <;> exact hs

/-- Placing a byte from outside keeps the arrays. -/
theorem place_arrays (addr : Word) (v : Byte) {s : State} (hs : Arrays s) : Arrays (place addr v s) := by
  unfold place
  split
  case h_2 hr =>
    rw [region_hram_iff] at hr
    exact ⟨hs.1, hs.2.1.write (by omega) v, hs.2.2⟩
  case h_8 hr =>
    rw [region_echo_iff] at hr
    exact ⟨hs.1.write (by omega) v, hs.2⟩
  case h_9 hr =>
    rw [region_wram_iff] at hr
    exact ⟨hs.1.write (by omega) v, hs.2⟩
  case h_10 hr =>
    rw [region_cartRam_iff] at hr
    split
    · exact hs
    · exact ⟨hs.1, hs.2.1, hs.2.2.write (by omega) v⟩
  all_goals exact hs

/-- Placing bytes from outside keeps the arrays. -/
theorem placeBytes_arrays (bytes : List Byte) (addr : Word) {s : State} (hs : Arrays s) :
    Arrays (placeBytes addr bytes s) := by
  induction bytes generalizing addr s with
  | nil => exact hs
  | cons v rest ih => exact ih (addr + 1) (place_arrays addr v hs)

/-- Placing a byte from outside keeps the canonical form of the ROM image. -/
theorem place_rom (addr : Word) (v : Byte) {s : State} (hs : Memory.wf s.params.rom = true) :
    Memory.wf (place addr v s).params.rom = true := by
  unfold place
  split
  case h_10 => split <;> exact hs
  case h_12 => exact Memory.write_wf _ _ _ hs
  case h_13 => exact Memory.write_wf _ _ _ hs
  all_goals exact hs

end Sys2Proof.Machine
end

