-- ==== Sys2Proof/Laws/Views.lean ====
section
/-! SUPPORT. The instruction set by the fields of its encodings (spec/30_encoding.md R116, R117): what `exec` does with
each family, in one lemma a family, and that the families and the instructions outside them are all there is. A proof
about every instruction has some seventy cases by `Instr.forall_by_family`, not five hundred. -/

namespace Sys2Proof.Machine

theorem exec_ldRegReg (dst src : Reg8) (s : State) : exec (.ldRegReg dst src) s = load8 (.reg dst) (.loc (.reg src)) s := by
  cases dst <;> cases src <;> rfl

theorem exec_ldRegMem (dst : Reg8) (s : State) : exec (.ldRegMem dst) s = load8 (.reg dst) (.loc (.ind .HL)) s := by
  cases dst <;> rfl

theorem exec_ldMemReg (src : Reg8) (s : State) : exec (.ldMemReg src) s = load8 (.ind .HL) (.loc (.reg src)) s := by
  cases src <;> rfl

theorem exec_ldRegImm (dst : Reg8) (n : Byte) (s : State) : exec (.ldRegImm dst n) s = load8 (.reg dst) (.imm n) s := by
  cases dst <;> rfl

theorem exec_alu (o : AluOp) (t : Target) (s : State) : exec (.alu o t) s = aluA o (.loc (targetLoc t)) s := by
  rcases t with r | _
  · cases o <;> cases r <;> rfl
  · cases o <;> rfl

theorem exec_aluImm (o : AluOp) (n : Byte) (s : State) : exec (.aluImm o n) s = aluA o (.imm n) s := by
  cases o <;> rfl

theorem exec_inc (t : Target) (s : State) : exec (.inc t) s = inc8 (targetLoc t) s := by
  rcases t with r | _
  · cases r <;> rfl
  · rfl

theorem exec_dec (t : Target) (s : State) : exec (.dec t) s = dec8 (targetLoc t) s := by
  rcases t with r | _
  · cases r <;> rfl
  · rfl

theorem exec_ldPairImm (p : Rp) (n : Word) (s : State) : exec (.ldPairImm p n) s = loadPair p.pair n s := by
  cases p <;> rfl

theorem exec_push (q : Rp2) (s : State) : exec (.push q) s = pushPair q.pair s := by
  cases q <;> rfl

theorem exec_pop (q : Rp2) (s : State) : exec (.pop q) s = popPair q.pair s := by
  cases q <;> rfl

theorem exec_addHL (p : Rp) (s : State) : exec (.addHL p) s = addPairHL p.pair s := by
  cases p <;> rfl

theorem exec_incPair (p : Rp) (s : State) : exec (.incPair p) s = stepPair p.pair 1 s := by
  cases p <;> rfl

theorem exec_decPair (p : Rp) (s : State) : exec (.decPair p) s = stepPair p.pair (-1) s := by
  cases p <;> rfl

theorem exec_jpCond (cc : Cond) (a16 : Word) (s : State) : exec (.jpCond cc a16) s = jumpIf cc a16 s := by
  cases cc <;> rfl

theorem exec_jrCond (cc : Cond) (e8 : Byte) (s : State) : exec (.jrCond cc e8) s = jumpRelIf cc e8 s := by
  cases cc <;> rfl

theorem exec_callCond (cc : Cond) (a16 : Word) (s : State) : exec (.callCond cc a16) s = callIf cc a16 s := by
  cases cc <;> rfl

theorem exec_retCond (cc : Cond) (s : State) : exec (.retCond cc) s = retIf cc s := by
  cases cc <;> rfl

theorem exec_rst (y : Bit3) (s : State) : exec (.rst y) s = restart (y.code <<< 3) s := by
  cases y <;> rfl

theorem exec_rot (k : RotOp) (t : Target) (s : State) : exec (.rot k t) s = rotate k (targetLoc t) s := by
  rcases t with r | _
  · cases k <;> cases r <;> rfl
  · cases k <;> rfl

theorem exec_bit (y : Bit3) (t : Target) (s : State) : exec (.bit y t) s = bitTest y.code.toNat (targetLoc t) s := by
  rcases t with r | _
  · cases y <;> cases r <;> rfl
  · cases y <;> rfl

theorem exec_res (y : Bit3) (t : Target) (s : State) : exec (.res y t) s = bitClear y.code.toNat (targetLoc t) s := by
  rcases t with r | _
  · cases y <;> cases r <;> rfl
  · cases y <;> rfl

theorem exec_set (y : Bit3) (t : Target) (s : State) : exec (.set y t) s = bitSet y.code.toNat (targetLoc t) s := by
  rcases t with r | _
  · cases y <;> cases r <;> rfl
  · cases y <;> rfl

/-- A property of every family, and of every instruction outside them, holds of every instruction. -/
theorem Instr.forall_by_family {P : Instr → Prop}
    (h_ldRegReg : ∀ dst src, P (.ldRegReg dst src))
    (h_ldRegMem : ∀ dst, P (.ldRegMem dst))
    (h_ldMemReg : ∀ src, P (.ldMemReg src))
    (h_ldRegImm : ∀ dst n, P (.ldRegImm dst n))
    (h_alu : ∀ o t, P (.alu o t))
    (h_aluImm : ∀ o n, P (.aluImm o n))
    (h_inc : ∀ t, P (.inc t))
    (h_dec : ∀ t, P (.dec t))
    (h_ldPairImm : ∀ p n, P (.ldPairImm p n))
    (h_push : ∀ q, P (.push q))
    (h_pop : ∀ q, P (.pop q))
    (h_addHL : ∀ p, P (.addHL p))
    (h_incPair : ∀ p, P (.incPair p))
    (h_decPair : ∀ p, P (.decPair p))
    (h_jpCond : ∀ cc a16, P (.jpCond cc a16))
    (h_jrCond : ∀ cc e8, P (.jrCond cc e8))
    (h_callCond : ∀ cc a16, P (.callCond cc a16))
    (h_retCond : ∀ cc, P (.retCond cc))
    (h_rst : ∀ y, P (.rst y))
    (h_rot : ∀ k t, P (.rot k t))
    (h_bit : ∀ y t, P (.bit y t))
    (h_res : ∀ y t, P (.res y t))
    (h_set : ∀ y t, P (.set y t))
    (h_nop : P .nop)
    (h_ld_mBC_A : P .ld_mBC_A)
    (h_rlca : P .rlca)
    (h_ld_ma16_SP : ∀ a16, P (.ld_ma16_SP a16))
    (h_ld_A_mBC : P .ld_A_mBC)
    (h_rrca : P .rrca)
    (h_stop : ∀ ignored, P (.stop ignored))
    (h_ld_mDE_A : P .ld_mDE_A)
    (h_rla : P .rla)
    (h_jr_e8 : ∀ e8, P (.jr_e8 e8))
    (h_ld_A_mDE : P .ld_A_mDE)
    (h_rra : P .rra)
    (h_ld_mHLi_A : P .ld_mHLi_A)
    (h_daa : P .daa)
    (h_ld_A_mHLi : P .ld_A_mHLi)
    (h_cpl : P .cpl)
    (h_ld_mHLd_A : P .ld_mHLd_A)
    (h_ld_mHL_d8 : ∀ d8, P (.ld_mHL_d8 d8))
    (h_scf : P .scf)
    (h_ld_A_mHLd : P .ld_A_mHLd)
    (h_ccf : P .ccf)
    (h_halt : P .halt)
    (h_jp_a16 : ∀ a16, P (.jp_a16 a16))
    (h_ret : P .ret)
    (h_call_a16 : ∀ a16, P (.call_a16 a16))
    (h_illegal : ∀ op, P (.illegal op))
    (h_reti : P .reti)
    (h_ldh_ma8_A : ∀ a8, P (.ldh_ma8_A a8))
    (h_ld_mC_A : P .ld_mC_A)
    (h_add_SP_e8 : ∀ e8, P (.add_SP_e8 e8))
    (h_jp_HL : P .jp_HL)
    (h_ld_ma16_A : ∀ a16, P (.ld_ma16_A a16))
    (h_ldh_A_ma8 : ∀ a8, P (.ldh_A_ma8 a8))
    (h_ld_A_mC : P .ld_A_mC)
    (h_di : P .di)
    (h_ld_HL_SPe8 : ∀ e8, P (.ld_HL_SPe8 e8))
    (h_ld_SP_HL : P .ld_SP_HL)
    (h_ld_A_ma16 : ∀ a16, P (.ld_A_ma16 a16))
    (h_ei : P .ei) :
    ∀ i, P i := by
  intro i
  cases i with
  | nop => exact h_nop
  | ld_BC_d16 d16 => exact h_ldPairImm .BC d16
  | ld_mBC_A => exact h_ld_mBC_A
  | inc_BC => exact h_incPair .BC
  | inc_B => exact h_inc (.reg .B)
  | dec_B => exact h_dec (.reg .B)
  | ld_B_d8 d8 => exact h_ldRegImm .B d8
  | rlca => exact h_rlca
  | ld_ma16_SP a16 => exact h_ld_ma16_SP a16
  | add_HL_BC => exact h_addHL .BC
  | ld_A_mBC => exact h_ld_A_mBC
  | dec_BC => exact h_decPair .BC
  | inc_C => exact h_inc (.reg .C)
  | dec_C => exact h_dec (.reg .C)
  | ld_C_d8 d8 => exact h_ldRegImm .C d8
  | rrca => exact h_rrca
  | stop ignored => exact h_stop ignored
  | ld_DE_d16 d16 => exact h_ldPairImm .DE d16
  | ld_mDE_A => exact h_ld_mDE_A
  | inc_DE => exact h_incPair .DE
  | inc_D => exact h_inc (.reg .D)
  | dec_D => exact h_dec (.reg .D)
  | ld_D_d8 d8 => exact h_ldRegImm .D d8
  | rla => exact h_rla
  | jr_e8 e8 => exact h_jr_e8 e8
  | add_HL_DE => exact h_addHL .DE
  | ld_A_mDE => exact h_ld_A_mDE
  | dec_DE => exact h_decPair .DE
  | inc_E => exact h_inc (.reg .E)
  | dec_E => exact h_dec (.reg .E)
  | ld_E_d8 d8 => exact h_ldRegImm .E d8
  | rra => exact h_rra
  | jr_NZ_e8 e8 => exact h_jrCond .NZ e8
  | ld_HL_d16 d16 => exact h_ldPairImm .HL d16
  | ld_mHLi_A => exact h_ld_mHLi_A
  | inc_HL => exact h_incPair .HL
  | inc_H => exact h_inc (.reg .H)
  | dec_H => exact h_dec (.reg .H)
  | ld_H_d8 d8 => exact h_ldRegImm .H d8
  | daa => exact h_daa
  | jr_Z_e8 e8 => exact h_jrCond .Z e8
  | add_HL_HL => exact h_addHL .HL
  | ld_A_mHLi => exact h_ld_A_mHLi
  | dec_HL => exact h_decPair .HL
  | inc_L => exact h_inc (.reg .L)
  | dec_L => exact h_dec (.reg .L)
  | ld_L_d8 d8 => exact h_ldRegImm .L d8
  | cpl => exact h_cpl
  | jr_NC_e8 e8 => exact h_jrCond .NC e8
  | ld_SP_d16 d16 => exact h_ldPairImm .SP d16
  | ld_mHLd_A => exact h_ld_mHLd_A
  | inc_SP => exact h_incPair .SP
  | inc_mHL => exact h_inc .mHL
  | dec_mHL => exact h_dec .mHL
  | ld_mHL_d8 d8 => exact h_ld_mHL_d8 d8
  | scf => exact h_scf
  | jr_C_e8 e8 => exact h_jrCond .C e8
  | add_HL_SP => exact h_addHL .SP
  | ld_A_mHLd => exact h_ld_A_mHLd
  | dec_SP => exact h_decPair .SP
  | inc_A => exact h_inc (.reg .A)
  | dec_A => exact h_dec (.reg .A)
  | ld_A_d8 d8 => exact h_ldRegImm .A d8
  | ccf => exact h_ccf
  | ld_B_B => exact h_ldRegReg .B .B
  | ld_B_C => exact h_ldRegReg .B .C
  | ld_B_D => exact h_ldRegReg .B .D
  | ld_B_E => exact h_ldRegReg .B .E
  | ld_B_H => exact h_ldRegReg .B .H
  | ld_B_L => exact h_ldRegReg .B .L
  | ld_B_mHL => exact h_ldRegMem .B
  | ld_B_A => exact h_ldRegReg .B .A
  | ld_C_B => exact h_ldRegReg .C .B
  | ld_C_C => exact h_ldRegReg .C .C
  | ld_C_D => exact h_ldRegReg .C .D
  | ld_C_E => exact h_ldRegReg .C .E
  | ld_C_H => exact h_ldRegReg .C .H
  | ld_C_L => exact h_ldRegReg .C .L
  | ld_C_mHL => exact h_ldRegMem .C
  | ld_C_A => exact h_ldRegReg .C .A
  | ld_D_B => exact h_ldRegReg .D .B
  | ld_D_C => exact h_ldRegReg .D .C
  | ld_D_D => exact h_ldRegReg .D .D
  | ld_D_E => exact h_ldRegReg .D .E
  | ld_D_H => exact h_ldRegReg .D .H
  | ld_D_L => exact h_ldRegReg .D .L
  | ld_D_mHL => exact h_ldRegMem .D
  | ld_D_A => exact h_ldRegReg .D .A
  | ld_E_B => exact h_ldRegReg .E .B
  | ld_E_C => exact h_ldRegReg .E .C
  | ld_E_D => exact h_ldRegReg .E .D
  | ld_E_E => exact h_ldRegReg .E .E
  | ld_E_H => exact h_ldRegReg .E .H
  | ld_E_L => exact h_ldRegReg .E .L
  | ld_E_mHL => exact h_ldRegMem .E
  | ld_E_A => exact h_ldRegReg .E .A
  | ld_H_B => exact h_ldRegReg .H .B
  | ld_H_C => exact h_ldRegReg .H .C
  | ld_H_D => exact h_ldRegReg .H .D
  | ld_H_E => exact h_ldRegReg .H .E
  | ld_H_H => exact h_ldRegReg .H .H
  | ld_H_L => exact h_ldRegReg .H .L
  | ld_H_mHL => exact h_ldRegMem .H
  | ld_H_A => exact h_ldRegReg .H .A
  | ld_L_B => exact h_ldRegReg .L .B
  | ld_L_C => exact h_ldRegReg .L .C
  | ld_L_D => exact h_ldRegReg .L .D
  | ld_L_E => exact h_ldRegReg .L .E
  | ld_L_H => exact h_ldRegReg .L .H
  | ld_L_L => exact h_ldRegReg .L .L
  | ld_L_mHL => exact h_ldRegMem .L
  | ld_L_A => exact h_ldRegReg .L .A
  | ld_mHL_B => exact h_ldMemReg .B
  | ld_mHL_C => exact h_ldMemReg .C
  | ld_mHL_D => exact h_ldMemReg .D
  | ld_mHL_E => exact h_ldMemReg .E
  | ld_mHL_H => exact h_ldMemReg .H
  | ld_mHL_L => exact h_ldMemReg .L
  | halt => exact h_halt
  | ld_mHL_A => exact h_ldMemReg .A
  | ld_A_B => exact h_ldRegReg .A .B
  | ld_A_C => exact h_ldRegReg .A .C
  | ld_A_D => exact h_ldRegReg .A .D
  | ld_A_E => exact h_ldRegReg .A .E
  | ld_A_H => exact h_ldRegReg .A .H
  | ld_A_L => exact h_ldRegReg .A .L
  | ld_A_mHL => exact h_ldRegMem .A
  | ld_A_A => exact h_ldRegReg .A .A
  | add_A_B => exact h_alu .ADD (.reg .B)
  | add_A_C => exact h_alu .ADD (.reg .C)
  | add_A_D => exact h_alu .ADD (.reg .D)
  | add_A_E => exact h_alu .ADD (.reg .E)
  | add_A_H => exact h_alu .ADD (.reg .H)
  | add_A_L => exact h_alu .ADD (.reg .L)
  | add_A_mHL => exact h_alu .ADD .mHL
  | add_A_A => exact h_alu .ADD (.reg .A)
  | adc_A_B => exact h_alu .ADC (.reg .B)
  | adc_A_C => exact h_alu .ADC (.reg .C)
  | adc_A_D => exact h_alu .ADC (.reg .D)
  | adc_A_E => exact h_alu .ADC (.reg .E)
  | adc_A_H => exact h_alu .ADC (.reg .H)
  | adc_A_L => exact h_alu .ADC (.reg .L)
  | adc_A_mHL => exact h_alu .ADC .mHL
  | adc_A_A => exact h_alu .ADC (.reg .A)
  | sub_B => exact h_alu .SUB (.reg .B)
  | sub_C => exact h_alu .SUB (.reg .C)
  | sub_D => exact h_alu .SUB (.reg .D)
  | sub_E => exact h_alu .SUB (.reg .E)
  | sub_H => exact h_alu .SUB (.reg .H)
  | sub_L => exact h_alu .SUB (.reg .L)
  | sub_mHL => exact h_alu .SUB .mHL
  | sub_A => exact h_alu .SUB (.reg .A)
  | sbc_A_B => exact h_alu .SBC (.reg .B)
  | sbc_A_C => exact h_alu .SBC (.reg .C)
  | sbc_A_D => exact h_alu .SBC (.reg .D)
  | sbc_A_E => exact h_alu .SBC (.reg .E)
  | sbc_A_H => exact h_alu .SBC (.reg .H)
  | sbc_A_L => exact h_alu .SBC (.reg .L)
  | sbc_A_mHL => exact h_alu .SBC .mHL
  | sbc_A_A => exact h_alu .SBC (.reg .A)
  | and_B => exact h_alu .AND (.reg .B)
  | and_C => exact h_alu .AND (.reg .C)
  | and_D => exact h_alu .AND (.reg .D)
  | and_E => exact h_alu .AND (.reg .E)
  | and_H => exact h_alu .AND (.reg .H)
  | and_L => exact h_alu .AND (.reg .L)
  | and_mHL => exact h_alu .AND .mHL
  | and_A => exact h_alu .AND (.reg .A)
  | xor_B => exact h_alu .XOR (.reg .B)
  | xor_C => exact h_alu .XOR (.reg .C)
  | xor_D => exact h_alu .XOR (.reg .D)
  | xor_E => exact h_alu .XOR (.reg .E)
  | xor_H => exact h_alu .XOR (.reg .H)
  | xor_L => exact h_alu .XOR (.reg .L)
  | xor_mHL => exact h_alu .XOR .mHL
  | xor_A => exact h_alu .XOR (.reg .A)
  | or_B => exact h_alu .OR (.reg .B)
  | or_C => exact h_alu .OR (.reg .C)
  | or_D => exact h_alu .OR (.reg .D)
  | or_E => exact h_alu .OR (.reg .E)
  | or_H => exact h_alu .OR (.reg .H)
  | or_L => exact h_alu .OR (.reg .L)
  | or_mHL => exact h_alu .OR .mHL
  | or_A => exact h_alu .OR (.reg .A)
  | cp_B => exact h_alu .CP (.reg .B)
  | cp_C => exact h_alu .CP (.reg .C)
  | cp_D => exact h_alu .CP (.reg .D)
  | cp_E => exact h_alu .CP (.reg .E)
  | cp_H => exact h_alu .CP (.reg .H)
  | cp_L => exact h_alu .CP (.reg .L)
  | cp_mHL => exact h_alu .CP .mHL
  | cp_A => exact h_alu .CP (.reg .A)
  | ret_NZ => exact h_retCond .NZ
  | pop_BC => exact h_pop .BC
  | jp_NZ_a16 a16 => exact h_jpCond .NZ a16
  | jp_a16 a16 => exact h_jp_a16 a16
  | call_NZ_a16 a16 => exact h_callCond .NZ a16
  | push_BC => exact h_push .BC
  | add_A_d8 d8 => exact h_aluImm .ADD d8
  | rst_00 => exact h_rst .b0
  | ret_Z => exact h_retCond .Z
  | ret => exact h_ret
  | jp_Z_a16 a16 => exact h_jpCond .Z a16
  | call_Z_a16 a16 => exact h_callCond .Z a16
  | call_a16 a16 => exact h_call_a16 a16
  | adc_A_d8 d8 => exact h_aluImm .ADC d8
  | rst_08 => exact h_rst .b1
  | ret_NC => exact h_retCond .NC
  | pop_DE => exact h_pop .DE
  | jp_NC_a16 a16 => exact h_jpCond .NC a16
  | illegal op => exact h_illegal op
  | call_NC_a16 a16 => exact h_callCond .NC a16
  | push_DE => exact h_push .DE
  | sub_d8 d8 => exact h_aluImm .SUB d8
  | rst_10 => exact h_rst .b2
  | ret_C => exact h_retCond .C
  | reti => exact h_reti
  | jp_C_a16 a16 => exact h_jpCond .C a16
  | call_C_a16 a16 => exact h_callCond .C a16
  | sbc_A_d8 d8 => exact h_aluImm .SBC d8
  | rst_18 => exact h_rst .b3
  | ldh_ma8_A a8 => exact h_ldh_ma8_A a8
  | pop_HL => exact h_pop .HL
  | ld_mC_A => exact h_ld_mC_A
  | push_HL => exact h_push .HL
  | and_d8 d8 => exact h_aluImm .AND d8
  | rst_20 => exact h_rst .b4
  | add_SP_e8 e8 => exact h_add_SP_e8 e8
  | jp_HL => exact h_jp_HL
  | ld_ma16_A a16 => exact h_ld_ma16_A a16
  | xor_d8 d8 => exact h_aluImm .XOR d8
  | rst_28 => exact h_rst .b5
  | ldh_A_ma8 a8 => exact h_ldh_A_ma8 a8
  | pop_AF => exact h_pop .AF
  | ld_A_mC => exact h_ld_A_mC
  | di => exact h_di
  | push_AF => exact h_push .AF
  | or_d8 d8 => exact h_aluImm .OR d8
  | rst_30 => exact h_rst .b6
  | ld_HL_SPe8 e8 => exact h_ld_HL_SPe8 e8
  | ld_SP_HL => exact h_ld_SP_HL
  | ld_A_ma16 a16 => exact h_ld_A_ma16 a16
  | ei => exact h_ei
  | cp_d8 d8 => exact h_aluImm .CP d8
  | rst_38 => exact h_rst .b7
  | rlc_B => exact h_rot .RLC (.reg .B)
  | rlc_C => exact h_rot .RLC (.reg .C)
  | rlc_D => exact h_rot .RLC (.reg .D)
  | rlc_E => exact h_rot .RLC (.reg .E)
  | rlc_H => exact h_rot .RLC (.reg .H)
  | rlc_L => exact h_rot .RLC (.reg .L)
  | rlc_mHL => exact h_rot .RLC .mHL
  | rlc_A => exact h_rot .RLC (.reg .A)
  | rrc_B => exact h_rot .RRC (.reg .B)
  | rrc_C => exact h_rot .RRC (.reg .C)
  | rrc_D => exact h_rot .RRC (.reg .D)
  | rrc_E => exact h_rot .RRC (.reg .E)
  | rrc_H => exact h_rot .RRC (.reg .H)
  | rrc_L => exact h_rot .RRC (.reg .L)
  | rrc_mHL => exact h_rot .RRC .mHL
  | rrc_A => exact h_rot .RRC (.reg .A)
  | rl_B => exact h_rot .RL (.reg .B)
  | rl_C => exact h_rot .RL (.reg .C)
  | rl_D => exact h_rot .RL (.reg .D)
  | rl_E => exact h_rot .RL (.reg .E)
  | rl_H => exact h_rot .RL (.reg .H)
  | rl_L => exact h_rot .RL (.reg .L)
  | rl_mHL => exact h_rot .RL .mHL
  | rl_A => exact h_rot .RL (.reg .A)
  | rr_B => exact h_rot .RR (.reg .B)
  | rr_C => exact h_rot .RR (.reg .C)
  | rr_D => exact h_rot .RR (.reg .D)
  | rr_E => exact h_rot .RR (.reg .E)
  | rr_H => exact h_rot .RR (.reg .H)
  | rr_L => exact h_rot .RR (.reg .L)
  | rr_mHL => exact h_rot .RR .mHL
  | rr_A => exact h_rot .RR (.reg .A)
  | sla_B => exact h_rot .SLA (.reg .B)
  | sla_C => exact h_rot .SLA (.reg .C)
  | sla_D => exact h_rot .SLA (.reg .D)
  | sla_E => exact h_rot .SLA (.reg .E)
  | sla_H => exact h_rot .SLA (.reg .H)
  | sla_L => exact h_rot .SLA (.reg .L)
  | sla_mHL => exact h_rot .SLA .mHL
  | sla_A => exact h_rot .SLA (.reg .A)
  | sra_B => exact h_rot .SRA (.reg .B)
  | sra_C => exact h_rot .SRA (.reg .C)
  | sra_D => exact h_rot .SRA (.reg .D)
  | sra_E => exact h_rot .SRA (.reg .E)
  | sra_H => exact h_rot .SRA (.reg .H)
  | sra_L => exact h_rot .SRA (.reg .L)
  | sra_mHL => exact h_rot .SRA .mHL
  | sra_A => exact h_rot .SRA (.reg .A)
  | swap_B => exact h_rot .SWAP (.reg .B)
  | swap_C => exact h_rot .SWAP (.reg .C)
  | swap_D => exact h_rot .SWAP (.reg .D)
  | swap_E => exact h_rot .SWAP (.reg .E)
  | swap_H => exact h_rot .SWAP (.reg .H)
  | swap_L => exact h_rot .SWAP (.reg .L)
  | swap_mHL => exact h_rot .SWAP .mHL
  | swap_A => exact h_rot .SWAP (.reg .A)
  | srl_B => exact h_rot .SRL (.reg .B)
  | srl_C => exact h_rot .SRL (.reg .C)
  | srl_D => exact h_rot .SRL (.reg .D)
  | srl_E => exact h_rot .SRL (.reg .E)
  | srl_H => exact h_rot .SRL (.reg .H)
  | srl_L => exact h_rot .SRL (.reg .L)
  | srl_mHL => exact h_rot .SRL .mHL
  | srl_A => exact h_rot .SRL (.reg .A)
  | bit_0_B => exact h_bit .b0 (.reg .B)
  | bit_0_C => exact h_bit .b0 (.reg .C)
  | bit_0_D => exact h_bit .b0 (.reg .D)
  | bit_0_E => exact h_bit .b0 (.reg .E)
  | bit_0_H => exact h_bit .b0 (.reg .H)
  | bit_0_L => exact h_bit .b0 (.reg .L)
  | bit_0_mHL => exact h_bit .b0 .mHL
  | bit_0_A => exact h_bit .b0 (.reg .A)
  | bit_1_B => exact h_bit .b1 (.reg .B)
  | bit_1_C => exact h_bit .b1 (.reg .C)
  | bit_1_D => exact h_bit .b1 (.reg .D)
  | bit_1_E => exact h_bit .b1 (.reg .E)
  | bit_1_H => exact h_bit .b1 (.reg .H)
  | bit_1_L => exact h_bit .b1 (.reg .L)
  | bit_1_mHL => exact h_bit .b1 .mHL
  | bit_1_A => exact h_bit .b1 (.reg .A)
  | bit_2_B => exact h_bit .b2 (.reg .B)
  | bit_2_C => exact h_bit .b2 (.reg .C)
  | bit_2_D => exact h_bit .b2 (.reg .D)
  | bit_2_E => exact h_bit .b2 (.reg .E)
  | bit_2_H => exact h_bit .b2 (.reg .H)
  | bit_2_L => exact h_bit .b2 (.reg .L)
  | bit_2_mHL => exact h_bit .b2 .mHL
  | bit_2_A => exact h_bit .b2 (.reg .A)
  | bit_3_B => exact h_bit .b3 (.reg .B)
  | bit_3_C => exact h_bit .b3 (.reg .C)
  | bit_3_D => exact h_bit .b3 (.reg .D)
  | bit_3_E => exact h_bit .b3 (.reg .E)
  | bit_3_H => exact h_bit .b3 (.reg .H)
  | bit_3_L => exact h_bit .b3 (.reg .L)
  | bit_3_mHL => exact h_bit .b3 .mHL
  | bit_3_A => exact h_bit .b3 (.reg .A)
  | bit_4_B => exact h_bit .b4 (.reg .B)
  | bit_4_C => exact h_bit .b4 (.reg .C)
  | bit_4_D => exact h_bit .b4 (.reg .D)
  | bit_4_E => exact h_bit .b4 (.reg .E)
  | bit_4_H => exact h_bit .b4 (.reg .H)
  | bit_4_L => exact h_bit .b4 (.reg .L)
  | bit_4_mHL => exact h_bit .b4 .mHL
  | bit_4_A => exact h_bit .b4 (.reg .A)
  | bit_5_B => exact h_bit .b5 (.reg .B)
  | bit_5_C => exact h_bit .b5 (.reg .C)
  | bit_5_D => exact h_bit .b5 (.reg .D)
  | bit_5_E => exact h_bit .b5 (.reg .E)
  | bit_5_H => exact h_bit .b5 (.reg .H)
  | bit_5_L => exact h_bit .b5 (.reg .L)
  | bit_5_mHL => exact h_bit .b5 .mHL
  | bit_5_A => exact h_bit .b5 (.reg .A)
  | bit_6_B => exact h_bit .b6 (.reg .B)
  | bit_6_C => exact h_bit .b6 (.reg .C)
  | bit_6_D => exact h_bit .b6 (.reg .D)
  | bit_6_E => exact h_bit .b6 (.reg .E)
  | bit_6_H => exact h_bit .b6 (.reg .H)
  | bit_6_L => exact h_bit .b6 (.reg .L)
  | bit_6_mHL => exact h_bit .b6 .mHL
  | bit_6_A => exact h_bit .b6 (.reg .A)
  | bit_7_B => exact h_bit .b7 (.reg .B)
  | bit_7_C => exact h_bit .b7 (.reg .C)
  | bit_7_D => exact h_bit .b7 (.reg .D)
  | bit_7_E => exact h_bit .b7 (.reg .E)
  | bit_7_H => exact h_bit .b7 (.reg .H)
  | bit_7_L => exact h_bit .b7 (.reg .L)
  | bit_7_mHL => exact h_bit .b7 .mHL
  | bit_7_A => exact h_bit .b7 (.reg .A)
  | res_0_B => exact h_res .b0 (.reg .B)
  | res_0_C => exact h_res .b0 (.reg .C)
  | res_0_D => exact h_res .b0 (.reg .D)
  | res_0_E => exact h_res .b0 (.reg .E)
  | res_0_H => exact h_res .b0 (.reg .H)
  | res_0_L => exact h_res .b0 (.reg .L)
  | res_0_mHL => exact h_res .b0 .mHL
  | res_0_A => exact h_res .b0 (.reg .A)
  | res_1_B => exact h_res .b1 (.reg .B)
  | res_1_C => exact h_res .b1 (.reg .C)
  | res_1_D => exact h_res .b1 (.reg .D)
  | res_1_E => exact h_res .b1 (.reg .E)
  | res_1_H => exact h_res .b1 (.reg .H)
  | res_1_L => exact h_res .b1 (.reg .L)
  | res_1_mHL => exact h_res .b1 .mHL
  | res_1_A => exact h_res .b1 (.reg .A)
  | res_2_B => exact h_res .b2 (.reg .B)
  | res_2_C => exact h_res .b2 (.reg .C)
  | res_2_D => exact h_res .b2 (.reg .D)
  | res_2_E => exact h_res .b2 (.reg .E)
  | res_2_H => exact h_res .b2 (.reg .H)
  | res_2_L => exact h_res .b2 (.reg .L)
  | res_2_mHL => exact h_res .b2 .mHL
  | res_2_A => exact h_res .b2 (.reg .A)
  | res_3_B => exact h_res .b3 (.reg .B)
  | res_3_C => exact h_res .b3 (.reg .C)
  | res_3_D => exact h_res .b3 (.reg .D)
  | res_3_E => exact h_res .b3 (.reg .E)
  | res_3_H => exact h_res .b3 (.reg .H)
  | res_3_L => exact h_res .b3 (.reg .L)
  | res_3_mHL => exact h_res .b3 .mHL
  | res_3_A => exact h_res .b3 (.reg .A)
  | res_4_B => exact h_res .b4 (.reg .B)
  | res_4_C => exact h_res .b4 (.reg .C)
  | res_4_D => exact h_res .b4 (.reg .D)
  | res_4_E => exact h_res .b4 (.reg .E)
  | res_4_H => exact h_res .b4 (.reg .H)
  | res_4_L => exact h_res .b4 (.reg .L)
  | res_4_mHL => exact h_res .b4 .mHL
  | res_4_A => exact h_res .b4 (.reg .A)
  | res_5_B => exact h_res .b5 (.reg .B)
  | res_5_C => exact h_res .b5 (.reg .C)
  | res_5_D => exact h_res .b5 (.reg .D)
  | res_5_E => exact h_res .b5 (.reg .E)
  | res_5_H => exact h_res .b5 (.reg .H)
  | res_5_L => exact h_res .b5 (.reg .L)
  | res_5_mHL => exact h_res .b5 .mHL
  | res_5_A => exact h_res .b5 (.reg .A)
  | res_6_B => exact h_res .b6 (.reg .B)
  | res_6_C => exact h_res .b6 (.reg .C)
  | res_6_D => exact h_res .b6 (.reg .D)
  | res_6_E => exact h_res .b6 (.reg .E)
  | res_6_H => exact h_res .b6 (.reg .H)
  | res_6_L => exact h_res .b6 (.reg .L)
  | res_6_mHL => exact h_res .b6 .mHL
  | res_6_A => exact h_res .b6 (.reg .A)
  | res_7_B => exact h_res .b7 (.reg .B)
  | res_7_C => exact h_res .b7 (.reg .C)
  | res_7_D => exact h_res .b7 (.reg .D)
  | res_7_E => exact h_res .b7 (.reg .E)
  | res_7_H => exact h_res .b7 (.reg .H)
  | res_7_L => exact h_res .b7 (.reg .L)
  | res_7_mHL => exact h_res .b7 .mHL
  | res_7_A => exact h_res .b7 (.reg .A)
  | set_0_B => exact h_set .b0 (.reg .B)
  | set_0_C => exact h_set .b0 (.reg .C)
  | set_0_D => exact h_set .b0 (.reg .D)
  | set_0_E => exact h_set .b0 (.reg .E)
  | set_0_H => exact h_set .b0 (.reg .H)
  | set_0_L => exact h_set .b0 (.reg .L)
  | set_0_mHL => exact h_set .b0 .mHL
  | set_0_A => exact h_set .b0 (.reg .A)
  | set_1_B => exact h_set .b1 (.reg .B)
  | set_1_C => exact h_set .b1 (.reg .C)
  | set_1_D => exact h_set .b1 (.reg .D)
  | set_1_E => exact h_set .b1 (.reg .E)
  | set_1_H => exact h_set .b1 (.reg .H)
  | set_1_L => exact h_set .b1 (.reg .L)
  | set_1_mHL => exact h_set .b1 .mHL
  | set_1_A => exact h_set .b1 (.reg .A)
  | set_2_B => exact h_set .b2 (.reg .B)
  | set_2_C => exact h_set .b2 (.reg .C)
  | set_2_D => exact h_set .b2 (.reg .D)
  | set_2_E => exact h_set .b2 (.reg .E)
  | set_2_H => exact h_set .b2 (.reg .H)
  | set_2_L => exact h_set .b2 (.reg .L)
  | set_2_mHL => exact h_set .b2 .mHL
  | set_2_A => exact h_set .b2 (.reg .A)
  | set_3_B => exact h_set .b3 (.reg .B)
  | set_3_C => exact h_set .b3 (.reg .C)
  | set_3_D => exact h_set .b3 (.reg .D)
  | set_3_E => exact h_set .b3 (.reg .E)
  | set_3_H => exact h_set .b3 (.reg .H)
  | set_3_L => exact h_set .b3 (.reg .L)
  | set_3_mHL => exact h_set .b3 .mHL
  | set_3_A => exact h_set .b3 (.reg .A)
  | set_4_B => exact h_set .b4 (.reg .B)
  | set_4_C => exact h_set .b4 (.reg .C)
  | set_4_D => exact h_set .b4 (.reg .D)
  | set_4_E => exact h_set .b4 (.reg .E)
  | set_4_H => exact h_set .b4 (.reg .H)
  | set_4_L => exact h_set .b4 (.reg .L)
  | set_4_mHL => exact h_set .b4 .mHL
  | set_4_A => exact h_set .b4 (.reg .A)
  | set_5_B => exact h_set .b5 (.reg .B)
  | set_5_C => exact h_set .b5 (.reg .C)
  | set_5_D => exact h_set .b5 (.reg .D)
  | set_5_E => exact h_set .b5 (.reg .E)
  | set_5_H => exact h_set .b5 (.reg .H)
  | set_5_L => exact h_set .b5 (.reg .L)
  | set_5_mHL => exact h_set .b5 .mHL
  | set_5_A => exact h_set .b5 (.reg .A)
  | set_6_B => exact h_set .b6 (.reg .B)
  | set_6_C => exact h_set .b6 (.reg .C)
  | set_6_D => exact h_set .b6 (.reg .D)
  | set_6_E => exact h_set .b6 (.reg .E)
  | set_6_H => exact h_set .b6 (.reg .H)
  | set_6_L => exact h_set .b6 (.reg .L)
  | set_6_mHL => exact h_set .b6 .mHL
  | set_6_A => exact h_set .b6 (.reg .A)
  | set_7_B => exact h_set .b7 (.reg .B)
  | set_7_C => exact h_set .b7 (.reg .C)
  | set_7_D => exact h_set .b7 (.reg .D)
  | set_7_E => exact h_set .b7 (.reg .E)
  | set_7_H => exact h_set .b7 (.reg .H)
  | set_7_L => exact h_set .b7 (.reg .L)
  | set_7_mHL => exact h_set .b7 .mHL
  | set_7_A => exact h_set .b7 (.reg .A)

end Sys2Proof.Machine
end

