-- ==== Sys2Proof/Laws/Closed.lean ====
section
/-! SUPPORT. What an instruction can do, said once. Every meaning answers a next state (`exec_next`), and that state is
reached through the named updates alone (`exec_closed`): a relation between states that each update keeps, and that is
reflexive and transitive, holds between the states before and after every instruction. -/

namespace Sys2Proof.Machine

/-! ### The updates -/

/-- A relation between states that is reflexive and transitive and that every update any instruction may make keeps:
a register, the flags, PC, a read, a write, a fault. SP, IME and `halted` are not among them, since few instructions
write those. -/
structure Closed (R : State → State → Prop) : Prop where
  refl : ∀ s, R s s
  trans : ∀ {s t u}, R s t → R t u → R s u
  reg : ∀ r v s, R s (setReg r v s)
  flags : ∀ z n h c s, R s { s with f := flagByte z n h c }
  statusF : ∀ v s, R s (setF v s)
  pc : ∀ v s, R s { s with pc := v }
  read : ∀ addr s, R s (afterRead addr s)
  write : ∀ {addr v s t}, writeByte addr v s = .done () t → R s t
  fault : ∀ f s, R s (enterFault f s)

/-- SP is an update `R` keeps. -/
abbrev KeepsSP (R : State → State → Prop) : Prop := ∀ v s, R s { s with sp := v }

/-! ### Parts of a step -/

/-- A part of a step leaves a state related to `s`, whether it is done or raises a fault. -/
def Reaches (R : State → State → Prop) {α : Type} (s : State) (r : Access α) : Prop :=
  match r with
  | .done _ t => R s t
  | .raised _ t => R s t

theorem Reaches.andThen {R : State → State → Prop} {α β : Type} {s : State} {r : Access α}
    {k : α → State → Access β} (hr : Reaches R s r) (hk : ∀ v t, R s t → Reaches R s (k v t)) :
    Reaches R s (r.andThen k) := by
  cases r with
  | done v t => exact hk v t hr
  | raised f t => exact hr

theorem Reaches.finish {R : State → State → Prop} (hR : Closed R) {s t : State} {r : Access Unit}
    (h : finish r = .next t) (hr : Reaches R s r) : R s t := by
  cases r with
  | done v u => cases h; exact hr
  | raised f u => cases h; exact hR.trans hr (hR.fault f u)

section
variable {R : State → State → Prop} (hR : Closed R)
include hR

theorem Closed.readByte (addr : Word) {s t : State} (h : R s t) : Reaches R s (readByte addr t) := by
  unfold Machine.readByte
  cases readValue addr t with
  | ok v => exact hR.trans h (hR.read addr t)
  | error f => exact h

theorem Closed.writeByte (addr : Word) (v : Byte) {s t : State} (h : R s t) : Reaches R s (writeByte addr v t) := by
  cases hw : Machine.writeByte addr v t with
  | done u w => exact hR.trans h (hR.write hw)
  | raised f w => rw [(writeByte_raised hw).1]; exact h

theorem Closed.readLoc (l : Loc8) {s t : State} (h : R s t) : Reaches R s (readLoc l t) := by
  cases l with
  | reg r => exact h
  | _ => exact hR.readByte _ h

theorem Closed.readSrc (src : Src8) {s t : State} (h : R s t) : Reaches R s (readSrc src t) := by
  cases src with
  | loc l => exact hR.readLoc l h
  | imm n => exact h

theorem Closed.writeLoc (l : Loc8) (v : Byte) {s t : State} (h : R s t) : Reaches R s (writeLoc l v t) := by
  cases l with
  | reg r => exact hR.trans h (hR.reg r v t)
  | _ => exact hR.writeByte _ v h

theorem Closed.writeWord (addr v : Word) {s t : State} (h : R s t) : Reaches R s (writeWord addr v t) :=
  (hR.writeByte addr _ h).andThen fun _ _ h1 => hR.writeByte _ _ h1

theorem Closed.readWord (addr : Word) {s t : State} (h : R s t) : Reaches R s (readWord addr t) :=
  (hR.readByte addr h).andThen fun _ _ h1 => (hR.readByte _ h1).andThen fun _ _ h2 => h2

theorem Closed.push16 (hsp : KeepsSP R) (v : Word) {s t : State} (h : R s t) : Reaches R s (push16 v t) :=
  hR.writeWord _ v (hR.trans h (hsp (t.sp - 2) t))

theorem Closed.pop16 (hsp : KeepsSP R) {s t : State} (h : R s t) : Reaches R s (pop16 t) :=
  (hR.readWord _ h).andThen fun _ u h1 => hR.trans h1 (hsp (u.sp + 2) u)

/-- Writing a pair is writing its halves; `SP` is no pair. -/
theorem Closed.setPair (rr : Reg16) (hsp : rr = .SP → KeepsSP R) (v : Word) (s : State) : R s (setPair rr v s) := by
  cases rr with
  | AF => exact hR.trans (hR.reg .A (highByte v) s) (hR.statusF _ _)
  | BC => exact hR.trans (hR.reg .B (highByte v) s) (hR.reg .C (lowByte v) _)
  | DE => exact hR.trans (hR.reg .D (highByte v) s) (hR.reg .E (lowByte v) _)
  | HL => exact hR.trans (hR.reg .H (highByte v) s) (hR.reg .L (lowByte v) _)
  | SP => exact hsp rfl v s

theorem Closed.accumulate (o : AluOp) (v : Byte) (s : State) : R s (accumulate o v s) := by
  cases o
  all_goals first
    | exact hR.flags _ _ _ _ s
    | exact hR.trans (hR.reg .A _ s) (hR.flags _ _ _ _ _)

/-! ### The shared meanings -/

theorem Closed.load8 (dst : Loc8) (src : Src8) {s t : State} (h : load8 dst src s = .next t) : R s t :=
  Reaches.finish hR h ((hR.readSrc src (hR.refl s)).andThen fun v _ h1 => hR.writeLoc dst v h1)

theorem Closed.storeStepHL (step : Word) {s t : State} (h : storeStepHL step s = .next t) : R s t :=
  Reaches.finish hR h ((hR.writeByte _ _ (hR.refl s)).andThen fun _ u h1 =>
    hR.trans h1 (hR.setPair .HL (by simp) _ u))

theorem Closed.loadStepHL (step : Word) {s t : State} (h : loadStepHL step s = .next t) : R s t :=
  Reaches.finish hR h ((hR.readByte _ (hR.refl s)).andThen fun v u h1 =>
    hR.trans h1 (hR.trans (hR.reg .A v u) (hR.setPair .HL (by simp) _ _)))

theorem Closed.aluA (o : AluOp) (src : Src8) {s t : State} (h : aluA o src s = .next t) : R s t :=
  Reaches.finish hR h ((hR.readSrc src (hR.refl s)).andThen fun v u h1 => hR.trans h1 (hR.accumulate o v u))

theorem Closed.inc8 (l : Loc8) {s t : State} (h : inc8 l s = .next t) : R s t :=
  Reaches.finish hR h ((hR.readLoc l (hR.refl s)).andThen fun _ _ h1 =>
    (hR.writeLoc l _ h1).andThen fun _ u h2 => hR.trans h2 (hR.flags _ _ _ _ u))

theorem Closed.dec8 (l : Loc8) {s t : State} (h : dec8 l s = .next t) : R s t :=
  Reaches.finish hR h ((hR.readLoc l (hR.refl s)).andThen fun _ _ h1 =>
    (hR.writeLoc l _ h1).andThen fun _ u h2 => hR.trans h2 (hR.flags _ _ _ _ u))

theorem Closed.rotate (k : RotOp) (l : Loc8) {s t : State} (h : rotate k l s = .next t) : R s t :=
  Reaches.finish hR h ((hR.readLoc l (hR.refl s)).andThen fun _ _ h1 =>
    (hR.writeLoc l _ h1).andThen fun _ u h2 => hR.trans h2 (hR.flags _ _ _ _ u))

theorem Closed.bitTest (b : Nat) (l : Loc8) {s t : State} (h : bitTest b l s = .next t) : R s t :=
  Reaches.finish hR h ((hR.readLoc l (hR.refl s)).andThen fun _ u h1 => hR.trans h1 (hR.flags _ _ _ _ u))

theorem Closed.bitClear (b : Nat) (l : Loc8) {s t : State} (h : bitClear b l s = .next t) : R s t :=
  Reaches.finish hR h ((hR.readLoc l (hR.refl s)).andThen fun _ _ h1 => hR.writeLoc l _ h1)

theorem Closed.bitSet (b : Nat) (l : Loc8) {s t : State} (h : bitSet b l s = .next t) : R s t :=
  Reaches.finish hR h ((hR.readLoc l (hR.refl s)).andThen fun _ _ h1 => hR.writeLoc l _ h1)

theorem Closed.storeSP (addr : Word) {s t : State} (h : storeSP addr s = .next t) : R s t :=
  Reaches.finish hR h (hR.writeWord addr _ (hR.refl s))

theorem Closed.pushPair (hsp : KeepsSP R) (rr : Reg16) {s t : State} (h : pushPair rr s = .next t) : R s t :=
  Reaches.finish hR h (hR.push16 hsp _ (hR.refl s))

theorem Closed.popPair (hsp : KeepsSP R) (rr : Reg16) {s t : State} (h : popPair rr s = .next t) : R s t :=
  Reaches.finish hR h ((hR.pop16 hsp (hR.refl s)).andThen fun v u h1 => hR.trans h1 (hR.setPair rr (fun _ => hsp) v u))

theorem Closed.jumpIf (cc : Cond) (target : Word) {s t : State} (h : jumpIf cc target s = .next t) : R s t := by
  unfold Machine.jumpIf jump at h
  split at h <;> cases h
  · exact hR.pc _ _
  · exact hR.refl _

theorem Closed.jumpRelIf (cc : Cond) (e : Byte) {s t : State} (h : jumpRelIf cc e s = .next t) : R s t := by
  unfold Machine.jumpRelIf jumpRel jump at h
  split at h <;> cases h
  · exact hR.pc _ _
  · exact hR.refl _

theorem Closed.call (hsp : KeepsSP R) (target : Word) {s t : State} (h : call target s = .next t) : R s t :=
  Reaches.finish hR h ((hR.push16 hsp _ (hR.refl s)).andThen fun _ u h1 => hR.trans h1 (hR.pc target u))

theorem Closed.callIf (hsp : KeepsSP R) (cc : Cond) (target : Word) {s t : State}
    (h : callIf cc target s = .next t) : R s t := by
  unfold Machine.callIf at h
  split at h
  · exact hR.call hsp target h
  · cases h; exact hR.refl _

theorem Closed.ret (hsp : KeepsSP R) {s t : State} (h : ret s = .next t) : R s t :=
  Reaches.finish hR h ((hR.pop16 hsp (hR.refl s)).andThen fun v u h1 => hR.trans h1 (hR.pc v u))

theorem Closed.retIf (hsp : KeepsSP R) (cc : Cond) {s t : State} (h : retIf cc s = .next t) : R s t := by
  unfold Machine.retIf at h
  split at h
  · exact hR.ret hsp h
  · cases h; exact hR.refl _

theorem Closed.retEnable (hsp : KeepsSP R) (hime : ∀ b s, R s { s with ime := b }) {s t : State}
    (h : retEnable s = .next t) : R s t :=
  Reaches.finish hR h ((hR.pop16 hsp (hR.refl s)).andThen fun v u h1 =>
    hR.trans h1 (hR.trans (hR.pc v u) (hime true _)))

theorem Closed.haltOrNot (hhalt : ∀ s, R s { s with halted := true }) {s t : State} (h : haltOrNot s = .next t) :
    R s t := by
  unfold Machine.haltOrNot at h
  split at h <;> cases h
  · exact hhalt _
  · exact hR.refl _

end

/-! ### Every instruction -/

/-- Every instruction answers a next state. -/
theorem exec_next (i : Instr) (s : State) : ∃ t, exec i s = .next t := by
  have fin : ∀ r : Access Unit, ∃ t, finish r = .next t := by
    intro r
    cases r with
    | done v t => exact ⟨t, rfl⟩
    | raised f t => exact ⟨_, rfl⟩
  have cond : ∀ (p : Prop) [Decidable p] (r : Result), (∃ t, r = .next t) →
      ∃ t, (if p then r else .next s) = .next t := by
    intro p _ r hr
    split
    · exact hr
    · exact ⟨s, rfl⟩
  have halt : ∃ t, haltOrNot s = .next t := by
    unfold haltOrNot
    split <;> exact ⟨_, rfl⟩
  refine Instr.forall_by_family (P := fun i => ∃ t, exec i s = .next t) ?_ ?_ ?_ ?_ ?_ ?_ ?_ ?_ ?_ ?_ ?_ ?_ ?_ ?_
    ?_ ?_ ?_ ?_ ?_ ?_ ?_ ?_ ?_ ?_ ?_ ?_ ?_ ?_ ?_ ?_ ?_ ?_ ?_ ?_ ?_ ?_ ?_ ?_ ?_ ?_ ?_ ?_ ?_ ?_ ?_ ?_ ?_ ?_ ?_ ?_ ?_
    ?_ ?_ ?_ ?_ ?_ ?_ ?_ ?_ ?_ ?_ ?_ i <;> intros
  all_goals try simp only [exec_ldRegReg, exec_ldRegMem, exec_ldMemReg, exec_ldRegImm, exec_alu, exec_aluImm, exec_inc,
    exec_dec, exec_ldPairImm, exec_push, exec_pop, exec_addHL, exec_incPair, exec_decPair, exec_jpCond, exec_jrCond,
    exec_callCond, exec_retCond, exec_rst, exec_rot, exec_bit, exec_res, exec_set]
  all_goals first
    | exact ⟨_, rfl⟩
    | exact fin _
    | exact halt
    | exact cond _ _ ⟨_, rfl⟩
    | exact cond _ _ (fin _)

/-- IME is an update `R` keeps. -/
abbrev KeepsIme (R : State → State → Prop) : Prop := ∀ b s, R s { s with ime := b }

/-- `halted` is an update `R` keeps. -/
abbrev KeepsHalted (R : State → State → Prop) : Prop := ∀ b s, R s { s with halted := b }

/-- What `exec_closed` asks of one instruction. -/
def ClosedFor (R : State → State → Prop) (i : Instr) : Prop :=
  (writesSP i = true → KeepsSP R) → (i = .di ∨ i = .ei ∨ i = .reti → KeepsIme R) →
    (i = .halt ∨ (∃ b, i = .stop b) → KeepsHalted R) → ∀ s t, exec i s = .next t → R s t

/-- Whatever an instruction does, it does by the named updates, SP, IME and `halted` only where the instruction is one
that writes them (10_state.md R24, R32, R33). -/
theorem exec_closed {R : State → State → Prop} (hR : Closed R) (i : Instr) : ClosedFor R i := by
  revert i
  apply Instr.forall_by_family
  case h_ldRegReg => intro d r _ _ _ s t h; rw [exec_ldRegReg] at h; exact hR.load8 _ _ h
  case h_ldRegMem => intro d _ _ _ s t h; rw [exec_ldRegMem] at h; exact hR.load8 _ _ h
  case h_ldMemReg => intro r _ _ _ s t h; rw [exec_ldMemReg] at h; exact hR.load8 _ _ h
  case h_ldRegImm => intro d n _ _ _ s t h; rw [exec_ldRegImm] at h; exact hR.load8 _ _ h
  case h_alu => intro o x _ _ _ s t h; rw [exec_alu] at h; exact hR.aluA _ _ h
  case h_aluImm => intro o n _ _ _ s t h; rw [exec_aluImm] at h; exact hR.aluA _ _ h
  case h_inc => intro x _ _ _ s t h; rw [exec_inc] at h; exact hR.inc8 _ h
  case h_dec => intro x _ _ _ s t h; rw [exec_dec] at h; exact hR.dec8 _ h
  case h_ldPairImm =>
    intro p n hsp _ _ s t h
    rw [exec_ldPairImm] at h
    cases h
    exact hR.setPair _ (fun e => hsp (by cases p <;> first | rfl | cases e)) n s
  case h_push => intro q hsp _ _ s t h; rw [exec_push] at h; exact hR.pushPair (hsp (by cases q <;> rfl)) _ h
  case h_pop => intro q hsp _ _ s t h; rw [exec_pop] at h; exact hR.popPair (hsp (by cases q <;> rfl)) _ h
  case h_addHL =>
    intro p _ _ _ s t h
    rw [exec_addHL] at h
    cases h
    exact hR.trans (hR.flags _ _ _ _ s) (hR.setPair .HL (by simp) _ _)
  case h_incPair =>
    intro p hsp _ _ s t h
    rw [exec_incPair] at h
    cases h
    exact hR.setPair _ (fun e => hsp (by cases p <;> first | rfl | cases e)) _ s
  case h_decPair =>
    intro p hsp _ _ s t h
    rw [exec_decPair] at h
    cases h
    exact hR.setPair _ (fun e => hsp (by cases p <;> first | rfl | cases e)) _ s
  case h_jpCond => intro cc a _ _ _ s t h; rw [exec_jpCond] at h; exact hR.jumpIf _ _ h
  case h_jrCond => intro cc e _ _ _ s t h; rw [exec_jrCond] at h; exact hR.jumpRelIf _ _ h
  case h_callCond =>
    intro cc a hsp _ _ s t h
    rw [exec_callCond] at h
    exact hR.callIf (hsp (by cases cc <;> rfl)) _ _ h
  case h_retCond => intro cc hsp _ _ s t h; rw [exec_retCond] at h; exact hR.retIf (hsp (by cases cc <;> rfl)) _ h
  case h_rst => intro y hsp _ _ s t h; rw [exec_rst] at h; exact hR.call (hsp (by cases y <;> rfl)) _ h
  case h_rot => intro k x _ _ _ s t h; rw [exec_rot] at h; exact hR.rotate _ _ h
  case h_bit => intro y x _ _ _ s t h; rw [exec_bit] at h; exact hR.bitTest _ _ h
  case h_res => intro y x _ _ _ s t h; rw [exec_res] at h; exact hR.bitClear _ _ h
  case h_set => intro y x _ _ _ s t h; rw [exec_set] at h; exact hR.bitSet _ _ h
  case h_nop => intro _ _ _ s t h; cases h; exact hR.refl s
  case h_ld_mBC_A => intro _ _ _ s t h; exact hR.load8 _ _ h
  case h_ld_mDE_A => intro _ _ _ s t h; exact hR.load8 _ _ h
  case h_ld_A_mBC => intro _ _ _ s t h; exact hR.load8 _ _ h
  case h_ld_A_mDE => intro _ _ _ s t h; exact hR.load8 _ _ h
  case h_ld_mHL_d8 => intro n _ _ _ s t h; exact hR.load8 _ _ h
  case h_ldh_ma8_A => intro n _ _ _ s t h; exact hR.load8 _ _ h
  case h_ldh_A_ma8 => intro n _ _ _ s t h; exact hR.load8 _ _ h
  case h_ld_mC_A => intro _ _ _ s t h; exact hR.load8 _ _ h
  case h_ld_A_mC => intro _ _ _ s t h; exact hR.load8 _ _ h
  case h_ld_ma16_A => intro n _ _ _ s t h; exact hR.load8 _ _ h
  case h_ld_A_ma16 => intro n _ _ _ s t h; exact hR.load8 _ _ h
  case h_ld_mHLi_A => intro _ _ _ s t h; exact hR.storeStepHL _ h
  case h_ld_mHLd_A => intro _ _ _ s t h; exact hR.storeStepHL _ h
  case h_ld_A_mHLi => intro _ _ _ s t h; exact hR.loadStepHL _ h
  case h_ld_A_mHLd => intro _ _ _ s t h; exact hR.loadStepHL _ h
  case h_ld_ma16_SP => intro n _ _ _ s t h; exact hR.storeSP _ h
  case h_ld_SP_HL => intro hsp _ _ s t h; cases h; exact hsp rfl _ s
  case h_add_SP_e8 => intro e hsp _ _ s t h; cases h; exact hR.trans (hR.flags _ _ _ _ s) (hsp rfl _ _)
  case h_ld_HL_SPe8 =>
    intro e _ _ _ s t h
    cases h
    exact hR.trans (hR.flags _ _ _ _ s) (hR.setPair .HL (by simp) _ _)
  case h_jp_a16 => intro a _ _ _ s t h; cases h; exact hR.pc _ s
  case h_jp_HL => intro _ _ _ s t h; cases h; exact hR.pc _ s
  case h_jr_e8 => intro e _ _ _ s t h; cases h; exact hR.pc _ s
  case h_call_a16 => intro a hsp _ _ s t h; exact hR.call (hsp rfl) _ h
  case h_ret => intro hsp _ _ s t h; exact hR.ret (hsp rfl) h
  case h_reti => intro hsp hime _ s t h; exact hR.retEnable (hsp rfl) (hime (.inr (.inr rfl))) h
  case h_rlca => intro _ _ _ s t h; cases h; exact hR.trans (hR.reg .A _ s) (hR.flags _ _ _ _ _)
  case h_rla => intro _ _ _ s t h; cases h; exact hR.trans (hR.reg .A _ s) (hR.flags _ _ _ _ _)
  case h_rrca => intro _ _ _ s t h; cases h; exact hR.trans (hR.reg .A _ s) (hR.flags _ _ _ _ _)
  case h_rra => intro _ _ _ s t h; cases h; exact hR.trans (hR.reg .A _ s) (hR.flags _ _ _ _ _)
  case h_daa => intro _ _ _ s t h; cases h; exact hR.trans (hR.reg .A _ s) (hR.flags _ _ _ _ _)
  case h_cpl => intro _ _ _ s t h; cases h; exact hR.trans (hR.reg .A _ s) (hR.flags _ _ _ _ _)
  case h_scf => intro _ _ _ s t h; cases h; exact hR.flags _ _ _ _ s
  case h_ccf => intro _ _ _ s t h; cases h; exact hR.flags _ _ _ _ s
  case h_di => intro _ hime _ s t h; cases h; exact hime (.inl rfl) false s
  case h_ei => intro _ hime _ s t h; cases h; exact hime (.inr (.inl rfl)) true s
  case h_halt => intro _ _ hh s t h; exact hR.haltOrNot (hh (.inl rfl) true) h
  case h_stop => intro b _ _ hh s t h; exact hR.haltOrNot (hh (.inr ⟨b, rfl⟩) true) h
  case h_illegal => intro op _ _ _ s t h; cases h; exact hR.fault _ s

/-! ### Every step -/

theorem Closed.decodeAt {R : State → State → Prop} (hR : Closed R) (addr : Word) {s t : State} (h : R s t) :
    Reaches R s (decodeAt addr t) := by
  refine (hR.readByte addr h).andThen fun op u h1 => ?_
  split
  · exact h1
  · split
    · exact h1
    · exact (hR.readByte _ h1).andThen fun _ _ h2 => h2
    · exact (hR.readByte _ h1).andThen fun _ _ h2 => (hR.readByte _ h2).andThen fun _ _ h3 => h3
    · exact (hR.readByte _ h1).andThen fun _ _ h2 => h2
    · exact h1

/-- Whatever a step does, it does by the named updates. -/
theorem step_closed {R : State → State → Prop} (hR : Closed R) (hsp : KeepsSP R) (hime : KeepsIme R)
    (hhalt : KeepsHalted R) {s t : State} (h : step s = .next t) : R s t := by
  unfold step at h
  split at h
  · cases h
  · split at h
    · cases h; exact hR.refl s
    · have hf : Reaches R s (fetch s) := hR.decodeAt s.pc (hR.refl s)
      cases hfe : fetch s with
      | raised f u =>
        rw [hfe] at h hf
        cases h
        exact hR.trans hf (hR.fault f u)
      | done d u =>
        rw [hfe] at h hf
        exact hR.trans hf (hR.trans (hR.pc _ u)
          (exec_closed hR d.instr (fun _ => hsp) (fun _ => hime) (fun _ => hhalt) _ _ h))

end Sys2Proof.Machine
end

