-- ==== Sys2Proof/Laws/Fetch.lean ====
section
/-! SUPPORT. What the parts of a fetch say: which opcodes the parameter refuses (30_encoding.md R113), where PC goes (R100),
and the costs 70_reset_and_hazards.md R370 fixes. -/

namespace Sys2Proof.Machine

theorem unimplemented_eq_true {op : Byte} {s : State} :
    unimplemented op s = true ↔ op ≠ 0xCB ∧ op ∈ s.params.unimplementedOpcodes := by
  simp [unimplemented]

theorem unimplemented_eq_false {op : Byte} {s : State} :
    unimplemented op s = false ↔ op = 0xCB ∨ op ∉ s.params.unimplementedOpcodes := by
  rw [← Bool.not_eq_true, unimplemented_eq_true]
  tauto

@[simp] theorem unimplemented_prefix (s : State) : unimplemented 0xCB#8 s = false := rfl

theorem advance_eq (len : Nat) (s : State) : advance len s = { s with pc := s.pc + BitVec.ofNat 16 len } := rfl

@[simp] theorem cyclesPrimary_nop (s : State) : cyclesPrimary 0x00#8 s = 4 := rfl

@[simp] theorem cyclesPrimary_call (s : State) : cyclesPrimary 0xCD#8 s = 12 := rfl

theorem cyclesPrimary_of_ne {op : Byte} (h0 : op ≠ 0x00) (h1 : op ≠ 0xCD) (s : State) :
    cyclesPrimary op s = s.params.cyclesPrimary.getD op.toNat 0 := by
  rw [cyclesPrimary, if_neg h0, if_neg h1]

end Sys2Proof.Machine
end

