-- ==== Sys2Proof/Laws/Stores.lean ====
section
/-! SUPPORT. Where each family of instructions stores (Safety's `storesAt`), by the fields of its encodings. -/

namespace Sys2Proof.Machine

@[simp] theorem storesAt_ldMemReg (src : Reg8) (s : State) : storesAt (.ldMemReg src) s = [getPair .HL s] := by
  cases src <;> rfl

@[simp] theorem storesAt_inc_mHL (s : State) : storesAt (.inc .mHL) s = [getPair .HL s] := rfl

@[simp] theorem storesAt_dec_mHL (s : State) : storesAt (.dec .mHL) s = [getPair .HL s] := rfl

@[simp] theorem storesAt_push (q : Rp2) (s : State) : storesAt (.push q) s = [s.sp - 2, s.sp - 1] := by
  cases q <;> rfl

@[simp] theorem storesAt_callCond (cc : Cond) (a16 : Word) (s : State) :
    storesAt (.callCond cc a16) s = [s.sp - 2, s.sp - 1] := by
  cases cc <;> rfl

@[simp] theorem storesAt_rst (y : Bit3) (s : State) : storesAt (.rst y) s = [s.sp - 2, s.sp - 1] := by
  cases y <;> rfl

@[simp] theorem storesAt_rot_mHL (k : RotOp) (s : State) : storesAt (.rot k .mHL) s = [getPair .HL s] := by
  cases k <;> rfl

@[simp] theorem storesAt_res_mHL (y : Bit3) (s : State) : storesAt (.res y .mHL) s = [getPair .HL s] := by
  cases y <;> rfl

@[simp] theorem storesAt_set_mHL (y : Bit3) (s : State) : storesAt (.set y .mHL) s = [getPair .HL s] := by
  cases y <;> rfl

/-- The two bytes of a push are stored at `storesAt`'s two addresses. -/
theorem sp_sub_two_add_one (sp : Word) : sp - 2 + 1 = sp - 1 := by bv_omega

end Sys2Proof.Machine
end

