-- ==== Sys2Proof/Tests/Slice0.lean ====
section
/-! SUPPORT. The tests: well-formedness, decoding of words written out from spec/opcode_table.json, single steps with the
results of spec/95_test_vectors.md, and for every obligation with hypotheses a state and operands that meet them. -/

namespace Sys2Proof.Tests

open Sys2Proof Sys2Proof.Machine

/-! ### Well-formedness -/

theorem test_wf_refuses_a_byte_that_is_an_instruction : (Instr.illegal 0x00).wf = false := by decide

theorem test_wf_refuses_the_prefix_byte : (Instr.illegal 0xCB).wf = false := by decide

theorem test_wf_takes_every_illegal_byte :
    ([0xD3, 0xDB, 0xDD, 0xE3, 0xE4, 0xEB, 0xEC, 0xED, 0xF4, 0xFC, 0xFD] : List Byte).all (fun b => (Instr.illegal b).wf) =
      true := by decide

theorem test_wf_takes_any_immediate : (Instr.ld_BC_d16 0xFFFF).wf = true ∧ (Instr.stop 0xFF).wf = true := by decide

/-! ### Decoding: one word for every constructor, from the `match` of its row of spec/opcode_table.json, immediates
0x34 and 0x12 -/

/-- The one instruction of `bytes`, none if there is none or bytes are left over. -/
def reads (bytes : List Byte) : Option Instr :=
  match decode bytes with
  | .ok (i, []) => some i
  | .ok (_, _ :: _) => none
  | .error _ => none

theorem test_decode_0x :
    ([
      [0x00], [0x01, 0x34, 0x12], [0x02], [0x03], [0x04], [0x05], [0x06, 0x34], [0x07], [0x08, 0x34, 0x12], [0x09],
      [0x0A], [0x0B], [0x0C], [0x0D], [0x0E, 0x34], [0x0F]] : List (List Byte)).map reads =
      ([
        some .nop, some (.ld_BC_d16 0x1234), some .ld_mBC_A, some .inc_BC, some .inc_B, some .dec_B,
        some (.ld_B_d8 0x34), some .rlca, some (.ld_ma16_SP 0x1234), some .add_HL_BC, some .ld_A_mBC, some .dec_BC,
        some .inc_C, some .dec_C, some (.ld_C_d8 0x34), some .rrca] : List (Option Instr)) := by rfl

theorem test_decode_1x :
    ([
      [0x10, 0x34], [0x11, 0x34, 0x12], [0x12], [0x13], [0x14], [0x15], [0x16, 0x34], [0x17], [0x18, 0x34], [0x19],
      [0x1A], [0x1B], [0x1C], [0x1D], [0x1E, 0x34], [0x1F]] : List (List Byte)).map reads =
      ([
        some (.stop 0x34), some (.ld_DE_d16 0x1234), some .ld_mDE_A, some .inc_DE, some .inc_D, some .dec_D,
        some (.ld_D_d8 0x34), some .rla, some (.jr_e8 0x34), some .add_HL_DE, some .ld_A_mDE, some .dec_DE,
        some .inc_E, some .dec_E, some (.ld_E_d8 0x34), some .rra] : List (Option Instr)) := by rfl

theorem test_decode_2x :
    ([
      [0x20, 0x34], [0x21, 0x34, 0x12], [0x22], [0x23], [0x24], [0x25], [0x26, 0x34], [0x27], [0x28, 0x34], [0x29],
      [0x2A], [0x2B], [0x2C], [0x2D], [0x2E, 0x34], [0x2F]] : List (List Byte)).map reads =
      ([
        some (.jr_NZ_e8 0x34), some (.ld_HL_d16 0x1234), some .ld_mHLi_A, some .inc_HL, some .inc_H, some .dec_H,
        some (.ld_H_d8 0x34), some .daa, some (.jr_Z_e8 0x34), some .add_HL_HL, some .ld_A_mHLi, some .dec_HL,
        some .inc_L, some .dec_L, some (.ld_L_d8 0x34), some .cpl] : List (Option Instr)) := by rfl

theorem test_decode_3x :
    ([
      [0x30, 0x34], [0x31, 0x34, 0x12], [0x32], [0x33], [0x34], [0x35], [0x36, 0x34], [0x37], [0x38, 0x34], [0x39],
      [0x3A], [0x3B], [0x3C], [0x3D], [0x3E, 0x34], [0x3F]] : List (List Byte)).map reads =
      ([
        some (.jr_NC_e8 0x34), some (.ld_SP_d16 0x1234), some .ld_mHLd_A, some .inc_SP, some .inc_mHL, some .dec_mHL,
        some (.ld_mHL_d8 0x34), some .scf, some (.jr_C_e8 0x34), some .add_HL_SP, some .ld_A_mHLd, some .dec_SP,
        some .inc_A, some .dec_A, some (.ld_A_d8 0x34), some .ccf] : List (Option Instr)) := by rfl

theorem test_decode_4x :
    ([
      [0x40], [0x41], [0x42], [0x43], [0x44], [0x45], [0x46], [0x47], [0x48], [0x49], [0x4A], [0x4B], [0x4C], [0x4D],
      [0x4E], [0x4F]] : List (List Byte)).map reads =
      ([
        some .ld_B_B, some .ld_B_C, some .ld_B_D, some .ld_B_E, some .ld_B_H, some .ld_B_L, some .ld_B_mHL,
        some .ld_B_A, some .ld_C_B, some .ld_C_C, some .ld_C_D, some .ld_C_E, some .ld_C_H, some .ld_C_L,
        some .ld_C_mHL, some .ld_C_A] : List (Option Instr)) := by rfl

theorem test_decode_5x :
    ([
      [0x50], [0x51], [0x52], [0x53], [0x54], [0x55], [0x56], [0x57], [0x58], [0x59], [0x5A], [0x5B], [0x5C], [0x5D],
      [0x5E], [0x5F]] : List (List Byte)).map reads =
      ([
        some .ld_D_B, some .ld_D_C, some .ld_D_D, some .ld_D_E, some .ld_D_H, some .ld_D_L, some .ld_D_mHL,
        some .ld_D_A, some .ld_E_B, some .ld_E_C, some .ld_E_D, some .ld_E_E, some .ld_E_H, some .ld_E_L,
        some .ld_E_mHL, some .ld_E_A] : List (Option Instr)) := by rfl

theorem test_decode_6x :
    ([
      [0x60], [0x61], [0x62], [0x63], [0x64], [0x65], [0x66], [0x67], [0x68], [0x69], [0x6A], [0x6B], [0x6C], [0x6D],
      [0x6E], [0x6F]] : List (List Byte)).map reads =
      ([
        some .ld_H_B, some .ld_H_C, some .ld_H_D, some .ld_H_E, some .ld_H_H, some .ld_H_L, some .ld_H_mHL,
        some .ld_H_A, some .ld_L_B, some .ld_L_C, some .ld_L_D, some .ld_L_E, some .ld_L_H, some .ld_L_L,
        some .ld_L_mHL, some .ld_L_A] : List (Option Instr)) := by rfl

theorem test_decode_7x :
    ([
      [0x70], [0x71], [0x72], [0x73], [0x74], [0x75], [0x76], [0x77], [0x78], [0x79], [0x7A], [0x7B], [0x7C], [0x7D],
      [0x7E], [0x7F]] : List (List Byte)).map reads =
      ([
        some .ld_mHL_B, some .ld_mHL_C, some .ld_mHL_D, some .ld_mHL_E, some .ld_mHL_H, some .ld_mHL_L, some .halt,
        some .ld_mHL_A, some .ld_A_B, some .ld_A_C, some .ld_A_D, some .ld_A_E, some .ld_A_H, some .ld_A_L,
        some .ld_A_mHL, some .ld_A_A] : List (Option Instr)) := by rfl

theorem test_decode_8x :
    ([
      [0x80], [0x81], [0x82], [0x83], [0x84], [0x85], [0x86], [0x87], [0x88], [0x89], [0x8A], [0x8B], [0x8C], [0x8D],
      [0x8E], [0x8F]] : List (List Byte)).map reads =
      ([
        some .add_A_B, some .add_A_C, some .add_A_D, some .add_A_E, some .add_A_H, some .add_A_L, some .add_A_mHL,
        some .add_A_A, some .adc_A_B, some .adc_A_C, some .adc_A_D, some .adc_A_E, some .adc_A_H, some .adc_A_L,
        some .adc_A_mHL, some .adc_A_A] : List (Option Instr)) := by rfl

theorem test_decode_9x :
    ([
      [0x90], [0x91], [0x92], [0x93], [0x94], [0x95], [0x96], [0x97], [0x98], [0x99], [0x9A], [0x9B], [0x9C], [0x9D],
      [0x9E], [0x9F]] : List (List Byte)).map reads =
      ([
        some .sub_B, some .sub_C, some .sub_D, some .sub_E, some .sub_H, some .sub_L, some .sub_mHL, some .sub_A,
        some .sbc_A_B, some .sbc_A_C, some .sbc_A_D, some .sbc_A_E, some .sbc_A_H, some .sbc_A_L, some .sbc_A_mHL,
        some .sbc_A_A] : List (Option Instr)) := by rfl

theorem test_decode_Ax :
    ([
      [0xA0], [0xA1], [0xA2], [0xA3], [0xA4], [0xA5], [0xA6], [0xA7], [0xA8], [0xA9], [0xAA], [0xAB], [0xAC], [0xAD],
      [0xAE], [0xAF]] : List (List Byte)).map reads =
      ([
        some .and_B, some .and_C, some .and_D, some .and_E, some .and_H, some .and_L, some .and_mHL, some .and_A,
        some .xor_B, some .xor_C, some .xor_D, some .xor_E, some .xor_H, some .xor_L, some .xor_mHL, some .xor_A] : List (Option Instr)) := by rfl

theorem test_decode_Bx :
    ([
      [0xB0], [0xB1], [0xB2], [0xB3], [0xB4], [0xB5], [0xB6], [0xB7], [0xB8], [0xB9], [0xBA], [0xBB], [0xBC], [0xBD],
      [0xBE], [0xBF]] : List (List Byte)).map reads =
      ([
        some .or_B, some .or_C, some .or_D, some .or_E, some .or_H, some .or_L, some .or_mHL, some .or_A, some .cp_B,
        some .cp_C, some .cp_D, some .cp_E, some .cp_H, some .cp_L, some .cp_mHL, some .cp_A] : List (Option Instr)) := by rfl

theorem test_decode_Cx :
    ([
      [0xC0], [0xC1], [0xC2, 0x34, 0x12], [0xC3, 0x34, 0x12], [0xC4, 0x34, 0x12], [0xC5], [0xC6, 0x34], [0xC7],
      [0xC8], [0xC9], [0xCA, 0x34, 0x12], [0xCC, 0x34, 0x12], [0xCD, 0x34, 0x12], [0xCE, 0x34], [0xCF]] : List (List Byte)).map reads =
      ([
        some .ret_NZ, some .pop_BC, some (.jp_NZ_a16 0x1234), some (.jp_a16 0x1234), some (.call_NZ_a16 0x1234),
        some .push_BC, some (.add_A_d8 0x34), some .rst_00, some .ret_Z, some .ret, some (.jp_Z_a16 0x1234),
        some (.call_Z_a16 0x1234), some (.call_a16 0x1234), some (.adc_A_d8 0x34), some .rst_08] : List (Option Instr)) := by rfl

theorem test_decode_Dx :
    ([
      [0xD0], [0xD1], [0xD2, 0x34, 0x12], [0xD3], [0xD4, 0x34, 0x12], [0xD5], [0xD6, 0x34], [0xD7], [0xD8], [0xD9],
      [0xDA, 0x34, 0x12], [0xDB], [0xDC, 0x34, 0x12], [0xDD], [0xDE, 0x34], [0xDF]] : List (List Byte)).map reads =
      ([
        some .ret_NC, some .pop_DE, some (.jp_NC_a16 0x1234), some (.illegal 0xD3), some (.call_NC_a16 0x1234),
        some .push_DE, some (.sub_d8 0x34), some .rst_10, some .ret_C, some .reti, some (.jp_C_a16 0x1234),
        some (.illegal 0xDB), some (.call_C_a16 0x1234), some (.illegal 0xDD), some (.sbc_A_d8 0x34), some .rst_18] : List (Option Instr)) := by rfl

theorem test_decode_Ex :
    ([
      [0xE0, 0x34], [0xE1], [0xE2], [0xE3], [0xE4], [0xE5], [0xE6, 0x34], [0xE7], [0xE8, 0x34], [0xE9],
      [0xEA, 0x34, 0x12], [0xEB], [0xEC], [0xED], [0xEE, 0x34], [0xEF]] : List (List Byte)).map reads =
      ([
        some (.ldh_ma8_A 0x34), some .pop_HL, some .ld_mC_A, some (.illegal 0xE3), some (.illegal 0xE4),
        some .push_HL, some (.and_d8 0x34), some .rst_20, some (.add_SP_e8 0x34), some .jp_HL,
        some (.ld_ma16_A 0x1234), some (.illegal 0xEB), some (.illegal 0xEC), some (.illegal 0xED),
        some (.xor_d8 0x34), some .rst_28] : List (Option Instr)) := by rfl

theorem test_decode_Fx :
    ([
      [0xF0, 0x34], [0xF1], [0xF2], [0xF3], [0xF4], [0xF5], [0xF6, 0x34], [0xF7], [0xF8, 0x34], [0xF9],
      [0xFA, 0x34, 0x12], [0xFB], [0xFC], [0xFD], [0xFE, 0x34], [0xFF]] : List (List Byte)).map reads =
      ([
        some (.ldh_A_ma8 0x34), some .pop_AF, some .ld_A_mC, some .di, some (.illegal 0xF4), some .push_AF,
        some (.or_d8 0x34), some .rst_30, some (.ld_HL_SPe8 0x34), some .ld_SP_HL, some (.ld_A_ma16 0x1234),
        some .ei, some (.illegal 0xFC), some (.illegal 0xFD), some (.cp_d8 0x34), some .rst_38] : List (Option Instr)) := by rfl

theorem test_decode_CB_0x :
    ([
      [0xCB, 0x00], [0xCB, 0x01], [0xCB, 0x02], [0xCB, 0x03], [0xCB, 0x04], [0xCB, 0x05], [0xCB, 0x06], [0xCB, 0x07],
      [0xCB, 0x08], [0xCB, 0x09], [0xCB, 0x0A], [0xCB, 0x0B], [0xCB, 0x0C], [0xCB, 0x0D], [0xCB, 0x0E], [0xCB, 0x0F]] : List (List Byte)).map reads =
      ([
        some .rlc_B, some .rlc_C, some .rlc_D, some .rlc_E, some .rlc_H, some .rlc_L, some .rlc_mHL, some .rlc_A,
        some .rrc_B, some .rrc_C, some .rrc_D, some .rrc_E, some .rrc_H, some .rrc_L, some .rrc_mHL, some .rrc_A] : List (Option Instr)) := by rfl

theorem test_decode_CB_1x :
    ([
      [0xCB, 0x10], [0xCB, 0x11], [0xCB, 0x12], [0xCB, 0x13], [0xCB, 0x14], [0xCB, 0x15], [0xCB, 0x16], [0xCB, 0x17],
      [0xCB, 0x18], [0xCB, 0x19], [0xCB, 0x1A], [0xCB, 0x1B], [0xCB, 0x1C], [0xCB, 0x1D], [0xCB, 0x1E], [0xCB, 0x1F]] : List (List Byte)).map reads =
      ([
        some .rl_B, some .rl_C, some .rl_D, some .rl_E, some .rl_H, some .rl_L, some .rl_mHL, some .rl_A, some .rr_B,
        some .rr_C, some .rr_D, some .rr_E, some .rr_H, some .rr_L, some .rr_mHL, some .rr_A] : List (Option Instr)) := by rfl

theorem test_decode_CB_2x :
    ([
      [0xCB, 0x20], [0xCB, 0x21], [0xCB, 0x22], [0xCB, 0x23], [0xCB, 0x24], [0xCB, 0x25], [0xCB, 0x26], [0xCB, 0x27],
      [0xCB, 0x28], [0xCB, 0x29], [0xCB, 0x2A], [0xCB, 0x2B], [0xCB, 0x2C], [0xCB, 0x2D], [0xCB, 0x2E], [0xCB, 0x2F]] : List (List Byte)).map reads =
      ([
        some .sla_B, some .sla_C, some .sla_D, some .sla_E, some .sla_H, some .sla_L, some .sla_mHL, some .sla_A,
        some .sra_B, some .sra_C, some .sra_D, some .sra_E, some .sra_H, some .sra_L, some .sra_mHL, some .sra_A] : List (Option Instr)) := by rfl

theorem test_decode_CB_3x :
    ([
      [0xCB, 0x30], [0xCB, 0x31], [0xCB, 0x32], [0xCB, 0x33], [0xCB, 0x34], [0xCB, 0x35], [0xCB, 0x36], [0xCB, 0x37],
      [0xCB, 0x38], [0xCB, 0x39], [0xCB, 0x3A], [0xCB, 0x3B], [0xCB, 0x3C], [0xCB, 0x3D], [0xCB, 0x3E], [0xCB, 0x3F]] : List (List Byte)).map reads =
      ([
        some .swap_B, some .swap_C, some .swap_D, some .swap_E, some .swap_H, some .swap_L, some .swap_mHL,
        some .swap_A, some .srl_B, some .srl_C, some .srl_D, some .srl_E, some .srl_H, some .srl_L, some .srl_mHL,
        some .srl_A] : List (Option Instr)) := by rfl

theorem test_decode_CB_4x :
    ([
      [0xCB, 0x40], [0xCB, 0x41], [0xCB, 0x42], [0xCB, 0x43], [0xCB, 0x44], [0xCB, 0x45], [0xCB, 0x46], [0xCB, 0x47],
      [0xCB, 0x48], [0xCB, 0x49], [0xCB, 0x4A], [0xCB, 0x4B], [0xCB, 0x4C], [0xCB, 0x4D], [0xCB, 0x4E], [0xCB, 0x4F]] : List (List Byte)).map reads =
      ([
        some .bit_0_B, some .bit_0_C, some .bit_0_D, some .bit_0_E, some .bit_0_H, some .bit_0_L, some .bit_0_mHL,
        some .bit_0_A, some .bit_1_B, some .bit_1_C, some .bit_1_D, some .bit_1_E, some .bit_1_H, some .bit_1_L,
        some .bit_1_mHL, some .bit_1_A] : List (Option Instr)) := by rfl

theorem test_decode_CB_5x :
    ([
      [0xCB, 0x50], [0xCB, 0x51], [0xCB, 0x52], [0xCB, 0x53], [0xCB, 0x54], [0xCB, 0x55], [0xCB, 0x56], [0xCB, 0x57],
      [0xCB, 0x58], [0xCB, 0x59], [0xCB, 0x5A], [0xCB, 0x5B], [0xCB, 0x5C], [0xCB, 0x5D], [0xCB, 0x5E], [0xCB, 0x5F]] : List (List Byte)).map reads =
      ([
        some .bit_2_B, some .bit_2_C, some .bit_2_D, some .bit_2_E, some .bit_2_H, some .bit_2_L, some .bit_2_mHL,
        some .bit_2_A, some .bit_3_B, some .bit_3_C, some .bit_3_D, some .bit_3_E, some .bit_3_H, some .bit_3_L,
        some .bit_3_mHL, some .bit_3_A] : List (Option Instr)) := by rfl

theorem test_decode_CB_6x :
    ([
      [0xCB, 0x60], [0xCB, 0x61], [0xCB, 0x62], [0xCB, 0x63], [0xCB, 0x64], [0xCB, 0x65], [0xCB, 0x66], [0xCB, 0x67],
      [0xCB, 0x68], [0xCB, 0x69], [0xCB, 0x6A], [0xCB, 0x6B], [0xCB, 0x6C], [0xCB, 0x6D], [0xCB, 0x6E], [0xCB, 0x6F]] : List (List Byte)).map reads =
      ([
        some .bit_4_B, some .bit_4_C, some .bit_4_D, some .bit_4_E, some .bit_4_H, some .bit_4_L, some .bit_4_mHL,
        some .bit_4_A, some .bit_5_B, some .bit_5_C, some .bit_5_D, some .bit_5_E, some .bit_5_H, some .bit_5_L,
        some .bit_5_mHL, some .bit_5_A] : List (Option Instr)) := by rfl

theorem test_decode_CB_7x :
    ([
      [0xCB, 0x70], [0xCB, 0x71], [0xCB, 0x72], [0xCB, 0x73], [0xCB, 0x74], [0xCB, 0x75], [0xCB, 0x76], [0xCB, 0x77],
      [0xCB, 0x78], [0xCB, 0x79], [0xCB, 0x7A], [0xCB, 0x7B], [0xCB, 0x7C], [0xCB, 0x7D], [0xCB, 0x7E], [0xCB, 0x7F]] : List (List Byte)).map reads =
      ([
        some .bit_6_B, some .bit_6_C, some .bit_6_D, some .bit_6_E, some .bit_6_H, some .bit_6_L, some .bit_6_mHL,
        some .bit_6_A, some .bit_7_B, some .bit_7_C, some .bit_7_D, some .bit_7_E, some .bit_7_H, some .bit_7_L,
        some .bit_7_mHL, some .bit_7_A] : List (Option Instr)) := by rfl

theorem test_decode_CB_8x :
    ([
      [0xCB, 0x80], [0xCB, 0x81], [0xCB, 0x82], [0xCB, 0x83], [0xCB, 0x84], [0xCB, 0x85], [0xCB, 0x86], [0xCB, 0x87],
      [0xCB, 0x88], [0xCB, 0x89], [0xCB, 0x8A], [0xCB, 0x8B], [0xCB, 0x8C], [0xCB, 0x8D], [0xCB, 0x8E], [0xCB, 0x8F]] : List (List Byte)).map reads =
      ([
        some .res_0_B, some .res_0_C, some .res_0_D, some .res_0_E, some .res_0_H, some .res_0_L, some .res_0_mHL,
        some .res_0_A, some .res_1_B, some .res_1_C, some .res_1_D, some .res_1_E, some .res_1_H, some .res_1_L,
        some .res_1_mHL, some .res_1_A] : List (Option Instr)) := by rfl

theorem test_decode_CB_9x :
    ([
      [0xCB, 0x90], [0xCB, 0x91], [0xCB, 0x92], [0xCB, 0x93], [0xCB, 0x94], [0xCB, 0x95], [0xCB, 0x96], [0xCB, 0x97],
      [0xCB, 0x98], [0xCB, 0x99], [0xCB, 0x9A], [0xCB, 0x9B], [0xCB, 0x9C], [0xCB, 0x9D], [0xCB, 0x9E], [0xCB, 0x9F]] : List (List Byte)).map reads =
      ([
        some .res_2_B, some .res_2_C, some .res_2_D, some .res_2_E, some .res_2_H, some .res_2_L, some .res_2_mHL,
        some .res_2_A, some .res_3_B, some .res_3_C, some .res_3_D, some .res_3_E, some .res_3_H, some .res_3_L,
        some .res_3_mHL, some .res_3_A] : List (Option Instr)) := by rfl

theorem test_decode_CB_Ax :
    ([
      [0xCB, 0xA0], [0xCB, 0xA1], [0xCB, 0xA2], [0xCB, 0xA3], [0xCB, 0xA4], [0xCB, 0xA5], [0xCB, 0xA6], [0xCB, 0xA7],
      [0xCB, 0xA8], [0xCB, 0xA9], [0xCB, 0xAA], [0xCB, 0xAB], [0xCB, 0xAC], [0xCB, 0xAD], [0xCB, 0xAE], [0xCB, 0xAF]] : List (List Byte)).map reads =
      ([
        some .res_4_B, some .res_4_C, some .res_4_D, some .res_4_E, some .res_4_H, some .res_4_L, some .res_4_mHL,
        some .res_4_A, some .res_5_B, some .res_5_C, some .res_5_D, some .res_5_E, some .res_5_H, some .res_5_L,
        some .res_5_mHL, some .res_5_A] : List (Option Instr)) := by rfl

theorem test_decode_CB_Bx :
    ([
      [0xCB, 0xB0], [0xCB, 0xB1], [0xCB, 0xB2], [0xCB, 0xB3], [0xCB, 0xB4], [0xCB, 0xB5], [0xCB, 0xB6], [0xCB, 0xB7],
      [0xCB, 0xB8], [0xCB, 0xB9], [0xCB, 0xBA], [0xCB, 0xBB], [0xCB, 0xBC], [0xCB, 0xBD], [0xCB, 0xBE], [0xCB, 0xBF]] : List (List Byte)).map reads =
      ([
        some .res_6_B, some .res_6_C, some .res_6_D, some .res_6_E, some .res_6_H, some .res_6_L, some .res_6_mHL,
        some .res_6_A, some .res_7_B, some .res_7_C, some .res_7_D, some .res_7_E, some .res_7_H, some .res_7_L,
        some .res_7_mHL, some .res_7_A] : List (Option Instr)) := by rfl

theorem test_decode_CB_Cx :
    ([
      [0xCB, 0xC0], [0xCB, 0xC1], [0xCB, 0xC2], [0xCB, 0xC3], [0xCB, 0xC4], [0xCB, 0xC5], [0xCB, 0xC6], [0xCB, 0xC7],
      [0xCB, 0xC8], [0xCB, 0xC9], [0xCB, 0xCA], [0xCB, 0xCB], [0xCB, 0xCC], [0xCB, 0xCD], [0xCB, 0xCE], [0xCB, 0xCF]] : List (List Byte)).map reads =
      ([
        some .set_0_B, some .set_0_C, some .set_0_D, some .set_0_E, some .set_0_H, some .set_0_L, some .set_0_mHL,
        some .set_0_A, some .set_1_B, some .set_1_C, some .set_1_D, some .set_1_E, some .set_1_H, some .set_1_L,
        some .set_1_mHL, some .set_1_A] : List (Option Instr)) := by rfl

theorem test_decode_CB_Dx :
    ([
      [0xCB, 0xD0], [0xCB, 0xD1], [0xCB, 0xD2], [0xCB, 0xD3], [0xCB, 0xD4], [0xCB, 0xD5], [0xCB, 0xD6], [0xCB, 0xD7],
      [0xCB, 0xD8], [0xCB, 0xD9], [0xCB, 0xDA], [0xCB, 0xDB], [0xCB, 0xDC], [0xCB, 0xDD], [0xCB, 0xDE], [0xCB, 0xDF]] : List (List Byte)).map reads =
      ([
        some .set_2_B, some .set_2_C, some .set_2_D, some .set_2_E, some .set_2_H, some .set_2_L, some .set_2_mHL,
        some .set_2_A, some .set_3_B, some .set_3_C, some .set_3_D, some .set_3_E, some .set_3_H, some .set_3_L,
        some .set_3_mHL, some .set_3_A] : List (Option Instr)) := by rfl

theorem test_decode_CB_Ex :
    ([
      [0xCB, 0xE0], [0xCB, 0xE1], [0xCB, 0xE2], [0xCB, 0xE3], [0xCB, 0xE4], [0xCB, 0xE5], [0xCB, 0xE6], [0xCB, 0xE7],
      [0xCB, 0xE8], [0xCB, 0xE9], [0xCB, 0xEA], [0xCB, 0xEB], [0xCB, 0xEC], [0xCB, 0xED], [0xCB, 0xEE], [0xCB, 0xEF]] : List (List Byte)).map reads =
      ([
        some .set_4_B, some .set_4_C, some .set_4_D, some .set_4_E, some .set_4_H, some .set_4_L, some .set_4_mHL,
        some .set_4_A, some .set_5_B, some .set_5_C, some .set_5_D, some .set_5_E, some .set_5_H, some .set_5_L,
        some .set_5_mHL, some .set_5_A] : List (Option Instr)) := by rfl

theorem test_decode_CB_Fx :
    ([
      [0xCB, 0xF0], [0xCB, 0xF1], [0xCB, 0xF2], [0xCB, 0xF3], [0xCB, 0xF4], [0xCB, 0xF5], [0xCB, 0xF6], [0xCB, 0xF7],
      [0xCB, 0xF8], [0xCB, 0xF9], [0xCB, 0xFA], [0xCB, 0xFB], [0xCB, 0xFC], [0xCB, 0xFD], [0xCB, 0xFE], [0xCB, 0xFF]] : List (List Byte)).map reads =
      ([
        some .set_6_B, some .set_6_C, some .set_6_D, some .set_6_E, some .set_6_H, some .set_6_L, some .set_6_mHL,
        some .set_6_A, some .set_7_B, some .set_7_C, some .set_7_D, some .set_7_E, some .set_7_H, some .set_7_L,
        some .set_7_mHL, some .set_7_A] : List (Option Instr)) := by rfl

theorem test_decode_truncated : decode [0x01, 0x34] = .error (.truncated 0x01) ∧ decode [0xCB] = .error (.truncated 0xCB) ∧
    decode [] = .error .noBytes := by exact ⟨rfl, rfl, rfl⟩

/-! ### A word of the opcode table, and where step fetches it -/

theorem test_table_word_plain : decodeTableWord 8 0x41 = some .ld_B_C := by rfl

theorem test_table_word_zero_operands : decodeTableWord 8 0xC3 = some (.jp_a16 0x0000) := by rfl

theorem test_table_word_extended : decodeTableWord 16 0xCB19 = some .rr_C := by rfl

theorem test_fetch_word_plain : step (State.reset.withFetchWord 8 0x3C) =
    .next { State.reset.withFetchWord 8 0x3C with a := 0x01, f := 0x10, pc := 0x0101 } := by rfl

theorem test_fetch_word_extended : step (State.reset.withFetchWord 16 0xCBC7) =
    .next { State.reset.withFetchWord 16 0xCBC7 with a := 0x01, pc := 0x0102 } := by rfl

/-! ### Single steps: the vectors of spec/95_test_vectors.md sections 2.1 and 3, from the reset state but for what each
gives -/

/-- The state a step answers for `bytes` at PC, if it answers one. -/
def after (bytes : List Byte) (s : State) : Option State :=
  match step (placeBytes s.pc bytes s) with
  | .next t => some t
  | .fault _ => none
  | .refused _ => none

/-- The cost a step returns for `bytes` at PC. -/
def costOf (bytes : List Byte) (s : State) : Option Nat := stepCost (placeBytes s.pc bytes s)

/-- S1 (R300): NOP. -/
theorem test_S1_nop :
    (after [0x00]
        State.reset).map (fun t => (t.pc, t.f)) =
      some (0x0101, 0xB0) := by decide

/-- S2 (R256): CALL 0x1234. -/
theorem test_S2_call :
    (after [0xCD, 0x34, 0x12]
        State.reset).map (fun t => (t.pc, t.sp, Memory.read t.hram 0x7C, Memory.read t.hram 0x7D)) =
      some (0x1234, 0xFFFC, 0x03, 0x01) := by decide

/-- S3 (R143): LD A,0x05. -/
theorem test_S3_ld_a_d8 :
    (after [0x3E, 0x05]
        State.reset).map (fun t => (t.a, t.pc, t.f)) =
      some (0x05, 0x0102, 0xB0) := by decide

/-- S5 (R279): RR C. -/
theorem test_S5_rr_c :
    (after [0xCB, 0x19]
        { State.reset with c := 0x01, f := 0x00 }).map (fun t => (t.c, t.f, t.pc)) =
      some (0x00, 0x90, 0x0102) := by decide

/-- S11 (R192): ADD A,B: 0x0F + 0x01. -/
theorem test_S11_add_half_carry :
    (after [0x80]
        { State.reset with a := 0x0F, b := 0x01, f := 0x00 }).map (fun t => (t.a, t.f)) =
      some (0x10, 0x20) := by decide

/-- S12 (R192): ADD A,B: 0xFF + 0x01. -/
theorem test_S12_add_wraps :
    (after [0x80]
        { State.reset with a := 0xFF, b := 0x01, f := 0x00 }).map (fun t => (t.a, t.f)) =
      some (0x00, 0xB0) := by decide

/-- S13 (R194): SUB B: 0x10 - 0x01. -/
theorem test_S13_sub_half_borrow :
    (after [0x90]
        { State.reset with a := 0x10, b := 0x01, f := 0x00 }).map (fun t => (t.a, t.f)) =
      some (0x0F, 0x60) := by decide

/-- S14 (R194): SUB B: 0x00 - 0x01. -/
theorem test_S14_sub_wraps :
    (after [0x90]
        { State.reset with a := 0x00, b := 0x01, f := 0x00 }).map (fun t => (t.a, t.f)) =
      some (0xFF, 0x70) := by decide

/-- S9 (R157, R74): LD (0x2000),A with A=0x00. -/
theorem test_S9_bank_0_selects_1 :
    (after [0xEA, 0x00, 0x20]
        { State.reset with a := 0x00, romBank := 2 }).map (fun t => t.romBank) =
      some 1 := by decide

/-- M2 (R66): LD A,(HL) at 0xFEA0 (unusable). -/
theorem test_M2_ld_a_mhl_stub :
    (after [0x7E]
        { State.reset with a := 0x33, h := 0xFE, l := 0xA0 }).map (fun t => t.a) =
      some 0x00 := by decide

/-- M4 (R67): LDH (0xFE),A. -/
theorem test_M4_ldh_store_hram :
    (after [0xE0, 0xFE]
        { State.reset with a := 0x42 }).map (fun t => Memory.read t.hram 0x7E) =
      some 0x42 := by decide

/-- M5 (R78, R79, R171): LD (0xDFFF),SP (straddles WRAM and echo). -/
theorem test_M5_ld_ma16_sp_straddles :
    (after [0x08, 0xFF, 0xDF]
        { State.reset with sp := 0x1234 }).map (fun t => (Memory.read t.wram 0x1FFF, Memory.read t.wram 0x0000)) =
      some (0x34, 0x12) := by decide

/-- M6 (R79, R171, R76): LD (0xFFFF),SP (IE, then 0x0000). -/
theorem test_M6_ld_ma16_sp_second_byte_faults :
    (after [0x08, 0xFF, 0xFF]
        { State.reset with sp := 0xABCD }).map (fun t => (t.ie, t.pc, t.status)) =
      some (0xCD, 0x0103, .faulted (.mapperConfigFault 0x00 0xAB)) := by decide

/-- M8 (R68): LD (C),A with C=0x01, A=0x41. -/
theorem test_M8_ld_mc_a_serial :
    (after [0xE2]
        { State.reset with a := 0x41, c := 0x01 }).map (fun t => (t.serialLine, t.serialOut)) =
      some ([0x41], []) := by decide

/-- MP8 (R76): LD (0x0000),A. -/
theorem test_MP8_mapper_fault :
    (after [0xEA, 0x00, 0x00]
        { State.reset with a := 0x0A }).map (fun t => (t.pc, t.status)) =
      some (0x0103, .faulted (.mapperConfigFault 0x00 0x0A)) := by decide

/-- MP11 (R77): LD A,(0x4001), banked, rom_bank=2. -/
theorem test_MP11_banked_rom_read :
    (after []
        { State.reset with romBank := 2, params := { Params.default with romLen := 0x10000, romReadMode := .banked, rom := [(0x100, 0xFA), (0x101, 0x01), (0x102, 0x40), (0x4001, 0x11), (0x8001, 0xB2)] } }).map (fun t => t.a) =
      some 0xB2 := by decide

/-- MP13 (R77, R323): LD A,(0x4000), flat, ROM_LEN=0x4000. -/
theorem test_MP13_rom_range_fault :
    (after []
        { State.reset with params := { Params.default with romLen := 0x4000, rom := [(0x100, 0xFA), (0x102, 0x40)] } }).map (fun t => (t.pc, t.status)) =
      some (0x0103, .faulted (.romRangeFault 0x4000)) := by decide

/-- MP14 (R286, R74): SET 3,(HL) with HL=0x2000, ROM[0x2000]=0x00. -/
theorem test_MP14_set_mhl_at_mapper :
    (after [0xCB, 0xDE]
        { State.reset with h := 0x20, l := 0x00, romBank := 2 }).map (fun t => t.romBank) =
      some 1 := by decide

/-- DC1 (R112, R321): 0xD3 (illegal). -/
theorem test_DC1_illegal_byte :
    (after [0xD3]
        State.reset).map (fun t => (t.pc, t.status)) =
      some (0x0100, .faulted (.decodeFault 0x0100 0xD3)) := by decide

/-- DC2 (R113, R321): DAA with unimplemented_opcodes=0x27. -/
theorem test_DC2_unimplemented_opcode :
    (after [0x27]
        { State.reset with params := { Params.default with unimplementedOpcodes := [0x27] } }).map (fun t => (t.pc, t.status)) =
      some (0x0100, .faulted (.decodeFault 0x0100 0x27)) := by decide

/-- DC3 (R111, R143): LD A,d8 fetched at 0xFFFF (IE=0x3E), immediate from 0x0000. -/
theorem test_DC3_fetch_wraps :
    (after [0x3E]
        { State.reset with pc := 0xFFFF, params := { Params.default with rom := [(0x0, 0x42)] } }).map (fun t => (t.a, t.pc)) =
      some (0x42, 0x0001) := by decide

/-- DC4 (R111, R276): CB at 0x7FFF, second byte from VRAM 0x8000 (0x00 = RLC B). -/
theorem test_DC4_prefix_straddles :
    (after [0xCB]
        { State.reset with pc := 0x7FFF, b := 0x81, f := 0x00 }).map (fun t => (t.b, t.f, t.pc)) =
      some (0x03, 0x10, 0x8001) := by decide

/-- DC5 (R111, R323): first fetch with ROM_LEN=0x0100. -/
theorem test_DC5_fetch_past_rom :
    (after []
        { State.reset with params := { Params.default with romLen := 0x0100 } }).map (fun t => (t.pc, t.status)) =
      some (0x0100, .faulted (.romRangeFault 0x0100)) := by decide

/-- L1 (R140): LD B,C. -/
theorem test_L1_ld_b_c :
    (after [0x41]
        { State.reset with b := 0x00, c := 0x9C }).map (fun t => (t.b, t.c)) =
      some (0x9C, 0x9C) := by decide

/-- L3 (R141): LD H,(HL). -/
theorem test_L3_ld_h_mhl :
    (after [0x66]
        { State.reset with h := 0xC0, l := 0x00, wram := [(0x0, 0x12)] }).map (fun t => (t.h, t.l)) =
      some (0x12, 0x00) := by decide

/-- L4 (R142): LD (HL),H. -/
theorem test_L4_ld_mhl_h :
    (after [0x74]
        { State.reset with h := 0xC1, l := 0x23 }).map (fun t => Memory.read t.wram 0x0123) =
      some 0xC1 := by decide

/-- L5 (R144): LD (HL),0x99. -/
theorem test_L5_ld_mhl_d8 :
    (after [0x36, 0x99]
        { State.reset with h := 0xC0, l := 0x05 }).map (fun t => (Memory.read t.wram 0x0005, t.pc)) =
      some (0x99, 0x0102) := by decide

/-- L6 (R149): LD (HL+),A with HL=0xFFFF. -/
theorem test_L6_ld_mhli_a_wraps :
    (after [0x22]
        { State.reset with a := 0x1F, h := 0xFF, l := 0xFF }).map (fun t => (t.ie, getPair .HL t)) =
      some (0x1F, 0x0000) := by decide

/-- L7 (R152): LD A,(HL-) with HL=0xC000. -/
theorem test_L7_ld_a_mhld :
    (after [0x3A]
        { State.reset with h := 0xC0, l := 0x00, wram := [(0x0, 0x44)] }).map (fun t => (t.a, getPair .HL t)) =
      some (0x44, 0xBFFF) := by decide

/-- L8 (R150): LD A,(HL+) with HL=0xDFFF. -/
theorem test_L8_ld_a_mhli :
    (after [0x2A]
        { State.reset with h := 0xDF, l := 0xFF, wram := [(0x1fff, 0x21)] }).map (fun t => (t.a, getPair .HL t)) =
      some (0x21, 0xE000) := by decide

/-- L10 (R153): LDH (0x80),A. -/
theorem test_L10_ldh_ma8_a :
    (after [0xE0, 0x80]
        { State.reset with a := 0x3C }).map (fun t => Memory.read t.hram 0x00) =
      some 0x3C := by decide

/-- L11 (R156): LD A,(C) with C=0x44 (I/O stub). -/
theorem test_L11_ld_a_mc :
    (after [0xF2]
        { State.reset with a := 0x77, c := 0x44 }).map (fun t => t.a) =
      some 0x00 := by decide

/-- L13 (R149, R76): LD (HL+),A with HL=0x1000 (mapper fault). -/
theorem test_L13_ld_mhli_a_fault_keeps_hl :
    (after [0x22]
        { State.reset with a := 0x01, h := 0x10, l := 0x00 }).map (fun t => (getPair .HL t, t.pc, t.status)) =
      some (0x1000, 0x0101, .faulted (.mapperConfigFault 0x1000 0x01)) := by decide

/-- W1 (R170): LD SP,0xD000. -/
theorem test_W1_ld_sp_d16 :
    (after [0x31, 0x00, 0xD0]
        State.reset).map (fun t => (t.sp, t.pc)) =
      some (0xD000, 0x0103) := by decide

/-- W2 (R170): LD HL,0x8001. -/
theorem test_W2_ld_hl_d16 :
    (after [0x21, 0x01, 0x80]
        State.reset).map (fun t => (t.h, t.l)) =
      some (0x80, 0x01) := by decide

/-- W3 (R172): LD SP,HL. -/
theorem test_W3_ld_sp_hl :
    (after [0xF9]
        { State.reset with h := 0xC1, l := 0x00 }).map (fun t => t.sp) =
      some 0xC100 := by decide

/-- W4 (R174): PUSH BC. -/
theorem test_W4_push_bc :
    (after [0xC5]
        { State.reset with b := 0x12, c := 0x34, sp := 0xD000 }).map (fun t => (t.sp, Memory.read t.wram 0x0FFE, Memory.read t.wram 0x0FFF)) =
      some (0xCFFE, 0x34, 0x12) := by decide

/-- W5 (R176): POP AF with popped bytes 0xFF, 0x12. -/
theorem test_W5_pop_af_masks :
    (after [0xF1]
        { State.reset with sp := 0xC000, wram := [(0x0, 0xFF), (0x1, 0x12)] }).map (fun t => (t.a, t.f, t.sp)) =
      some (0x12, 0xF0, 0xC002) := by decide

/-- W8 (R175): POP HL with SP=0xFFFE. -/
theorem test_W8_pop_hl_wraps :
    (after [0xE1]
        { State.reset with sp := 0xFFFE, ie := 0x12, hram := [(0x7e, 0x34)] }).map (fun t => (getPair .HL t, t.sp)) =
      some (0x1234, 0x0000) := by decide

/-- W9 (R174, R79): PUSH DE with SP=0x0001 (SP wraps, second byte faults). -/
theorem test_W9_push_de_second_byte_faults :
    (after [0xD5]
        { State.reset with d := 0x56, e := 0x78, sp := 0x0001 }).map (fun t => (t.sp, t.ie, t.status)) =
      some (0xFFFF, 0x78, .faulted (.mapperConfigFault 0x00 0x56)) := by decide

/-- A1 (R192): ADD A,A: 0x80 + 0x80. -/
theorem test_A1_add_a_a :
    (after [0x87]
        { State.reset with a := 0x80, f := 0x00 }).map (fun t => (t.a, t.f)) =
      some (0x00, 0x90) := by decide

/-- A2 (R192): ADD A,0x01 (C6 01): 0x0E + 0x01. -/
theorem test_A2_add_d8 :
    (after [0xC6, 0x01]
        { State.reset with a := 0x0E, f := 0xF0 }).map (fun t => (t.a, t.f)) =
      some (0x0F, 0x00) := by decide

/-- A3 (R193): ADC A,B: 0x0F + 0x00 + 1. -/
theorem test_A3_adc_half :
    (after [0x88]
        { State.reset with a := 0x0F, b := 0x00, f := 0x10 }).map (fun t => (t.a, t.f)) =
      some (0x10, 0x20) := by decide

/-- A4 (R193): ADC A,B: 0x00 + 0xFF + 1. -/
theorem test_A4_adc_carry_in :
    (after [0x88]
        { State.reset with a := 0x00, b := 0xFF, f := 0x10 }).map (fun t => (t.a, t.f)) =
      some (0x00, 0xB0) := by decide

/-- A6 (R194): SUB A (0x97). -/
theorem test_A6_sub_a :
    (after [0x97]
        { State.reset with a := 0x3E, f := 0x30 }).map (fun t => (t.a, t.f)) =
      some (0x00, 0xC0) := by decide

/-- A7 (R195): SBC A,B: 0x10 - 0x0F - 1. -/
theorem test_A7_sbc_zero :
    (after [0x98]
        { State.reset with a := 0x10, b := 0x0F, f := 0x10 }).map (fun t => (t.a, t.f)) =
      some (0x00, 0xE0) := by decide

/-- A8 (R195): SBC A,B: 0x00 - 0x00 - 1. -/
theorem test_A8_sbc_borrow_in :
    (after [0x98]
        { State.reset with a := 0x00, b := 0x00, f := 0x10 }).map (fun t => (t.a, t.f)) =
      some (0xFF, 0x70) := by decide

/-- A9 (R195): SBC A,0xFF (DE FF): 0x00 - 0xFF - 1. -/
theorem test_A9_sbc_d8 :
    (after [0xDE, 0xFF]
        { State.reset with a := 0x00, f := 0x10 }).map (fun t => (t.a, t.f)) =
      some (0x00, 0xF0) := by decide

/-- A10 (R196): AND B: 0xF0 & 0x0F. -/
theorem test_A10_and_b :
    (after [0xA0]
        { State.reset with a := 0xF0, b := 0x0F, f := 0x10 }).map (fun t => (t.a, t.f)) =
      some (0x00, 0xA0) := by decide

/-- A11 (R197): XOR A. -/
theorem test_A11_xor_a :
    (after [0xAF]
        { State.reset with a := 0x5A, f := 0x70 }).map (fun t => (t.a, t.f)) =
      some (0x00, 0x80) := by decide

/-- A13 (R199): CP 0x40 with A=0x3C. -/
theorem test_A13_cp_less :
    (after [0xFE, 0x40]
        { State.reset with a := 0x3C, f := 0x00 }).map (fun t => (t.a, t.f)) =
      some (0x3C, 0x50) := by decide

/-- A14 (R199): CP 0x2F with A=0x3C. -/
theorem test_A14_cp_half :
    (after [0xFE, 0x2F]
        { State.reset with a := 0x3C, f := 0x00 }).map (fun t => (t.a, t.f)) =
      some (0x3C, 0x60) := by decide

/-- A15 (R199): CP A. -/
theorem test_A15_cp_a :
    (after [0xBF]
        { State.reset with a := 0x3C, f := 0x30 }).map (fun t => (t.a, t.f)) =
      some (0x3C, 0xC0) := by decide

/-- A16 (R196): AND (HL) in VRAM. -/
theorem test_A16_and_mhl :
    (after [0xA6]
        { State.reset with a := 0xFF, h := 0x90, l := 0x00, f := 0x00 }).map (fun t => (t.a, t.f)) =
      some (0x00, 0xA0) := by decide

/-- A17 (R200): INC B: 0xFF, C=1 kept. -/
theorem test_A17_inc_b_wraps :
    (after [0x04]
        { State.reset with b := 0xFF, f := 0x10 }).map (fun t => (t.b, t.f)) =
      some (0x00, 0xB0) := by decide

/-- A18 (R200): INC A: 0x0F. -/
theorem test_A18_inc_a_half :
    (after [0x3C]
        { State.reset with a := 0x0F, f := 0x40 }).map (fun t => (t.a, t.f)) =
      some (0x10, 0x20) := by decide

/-- A19 (R201): INC (HL) at 0xC000 holding 0xFF. -/
theorem test_A19_inc_mhl :
    (after [0x34]
        { State.reset with h := 0xC0, l := 0x00, f := 0x00, wram := [(0x0, 0xFF)] }).map (fun t => (Memory.read t.wram 0x0000, t.f)) =
      some (0x00, 0xA0) := by decide

/-- A21 (R202): DEC C: 0x01. -/
theorem test_A21_dec_c_zero :
    (after [0x0D]
        { State.reset with c := 0x01, f := 0x00 }).map (fun t => (t.c, t.f)) =
      some (0x00, 0xC0) := by decide

/-- A22 (R202): DEC L: 0x10. -/
theorem test_A22_dec_l_half :
    (after [0x2D]
        { State.reset with l := 0x10, f := 0x10 }).map (fun t => (t.l, t.f)) =
      some (0x0F, 0x70) := by decide

/-- A23 (R203): DEC (HL) at 0xFF90 holding 0x00. -/
theorem test_A23_dec_mhl_wraps :
    (after [0x35]
        { State.reset with h := 0xFF, l := 0x90, f := 0x00 }).map (fun t => (Memory.read t.hram 0x10, t.f)) =
      some (0xFF, 0x60) := by decide

/-- A28 (R204): DAA with A=0x00, N=1, C=1. -/
theorem test_A28_daa_after_sub :
    (after [0x27]
        { State.reset with a := 0x00, f := 0x50 }).map (fun t => (t.a, t.f)) =
      some (0xA0, 0x50) := by decide

/-- A29 (R205): CPL. -/
theorem test_A29_cpl :
    (after [0x2F]
        { State.reset with a := 0x35, f := 0x90 }).map (fun t => (t.a, t.f)) =
      some (0xCA, 0xF0) := by decide

/-- X1 (R230): ADD HL,BC: 0x0FFF + 0x0001. -/
theorem test_X1_add_hl_bc_half :
    (after [0x09]
        { State.reset with h := 0x0F, l := 0xFF, b := 0x00, c := 0x01, f := 0x80 }).map (fun t => (getPair .HL t, t.f)) =
      some (0x1000, 0xA0) := by decide

/-- X2 (R230): ADD HL,HL: 0x8000 + 0x8000. -/
theorem test_X2_add_hl_hl_carry :
    (after [0x29]
        { State.reset with h := 0x80, l := 0x00, f := 0x40 }).map (fun t => (getPair .HL t, t.f)) =
      some (0x0000, 0x10) := by decide

/-- X3 (R230): ADD HL,SP: 0x00FF + 0x0001. -/
theorem test_X3_add_hl_sp :
    (after [0x39]
        { State.reset with h := 0x00, l := 0xFF, sp := 0x0001, f := 0x00 }).map (fun t => (getPair .HL t, t.f)) =
      some (0x0100, 0x00) := by decide

/-- X4 (R231): INC SP: 0xFFFF. -/
theorem test_X4_inc_sp_wraps :
    (after [0x33]
        { State.reset with sp := 0xFFFF, f := 0xF0 }).map (fun t => (t.sp, t.f)) =
      some (0x0000, 0xF0) := by decide

/-- X5 (R232): DEC HL: 0x0000. -/
theorem test_X5_dec_hl_wraps :
    (after [0x2B]
        { State.reset with h := 0x00, l := 0x00, f := 0x00 }).map (fun t => (getPair .HL t, t.f)) =
      some (0xFFFF, 0x00) := by decide

/-- X6 (R233): ADD SP,0x08: 0xFFF8. -/
theorem test_X6_add_sp_carries :
    (after [0xE8, 0x08]
        { State.reset with sp := 0xFFF8, f := 0xC0 }).map (fun t => (t.sp, t.f)) =
      some (0x0000, 0x30) := by decide

/-- X7 (R233): ADD SP,-1: 0xD000. -/
theorem test_X7_add_sp_negative :
    (after [0xE8, 0xFF]
        { State.reset with sp := 0xD000, f := 0xF0 }).map (fun t => (t.sp, t.f)) =
      some (0xCFFF, 0x00) := by decide

/-- X9 (R234): LD HL,SP+2: 0xFFFE. -/
theorem test_X9_ld_hl_sp_e8 :
    (after [0xF8, 0x02]
        { State.reset with sp := 0xFFFE, f := 0x80 }).map (fun t => (getPair .HL t, t.sp, t.f)) =
      some (0x0000, 0xFFFE, 0x30) := by decide

/-- X10 (R234): LD HL,SP-128: 0xC080. -/
theorem test_X10_ld_hl_sp_negative :
    (after [0xF8, 0x80]
        { State.reset with sp := 0xC080, f := 0x00 }).map (fun t => (getPair .HL t, t.f)) =
      some (0xC000, 0x10) := by decide

/-- C1 (R251): JP 0x0150. -/
theorem test_C1_jp :
    (after [0xC3, 0x50, 0x01]
        State.reset).map (fun t => t.pc) =
      some 0x0150 := by decide

/-- C2 (R252): JP NZ,0x0150 with Z=1 (not taken). -/
theorem test_C2_jp_nz_not_taken :
    (after [0xC2, 0x50, 0x01]
        { State.reset with f := 0x80 }).map (fun t => t.pc) =
      some 0x0103 := by decide

/-- C3 (R252): JP C,0x0150 with C=1 (taken). -/
theorem test_C3_jp_c_taken :
    (after [0xDA, 0x50, 0x01]
        { State.reset with f := 0x10 }).map (fun t => t.pc) =
      some 0x0150 := by decide

/-- C4 (R253): JP HL. -/
theorem test_C4_jp_hl :
    (after [0xE9]
        { State.reset with h := 0xC0, l := 0x00 }).map (fun t => t.pc) =
      some 0xC000 := by decide

/-- C6 (R254): JR -128 (18 80). -/
theorem test_C6_jr_backward :
    (after [0x18, 0x80]
        State.reset).map (fun t => t.pc) =
      some 0x0082 := by decide

/-- C8 (R254): JR -3 at 0x0000 (wraps). -/
theorem test_C8_jr_wraps :
    (after [0x18, 0xFD]
        { State.reset with pc := 0x0000 }).map (fun t => t.pc) =
      some 0xFFFF := by decide

/-- C9 (R255): JR NC,+5 with C=1 (not taken). -/
theorem test_C9_jr_nc_not_taken :
    (after [0x30, 0x05]
        { State.reset with f := 0x10 }).map (fun t => t.pc) =
      some 0x0102 := by decide

/-- C10 (R255): JR Z,+5 with Z=1 (taken). -/
theorem test_C10_jr_z_taken :
    (after [0x28, 0x05]
        { State.reset with f := 0x80 }).map (fun t => t.pc) =
      some 0x0107 := by decide

/-- C11 (R257): CALL Z,0x2000 with Z=0 (not taken). -/
theorem test_C11_call_z_not_taken :
    (after [0xCC, 0x00, 0x20]
        { State.reset with f := 0x00, sp := 0xD000 }).map (fun t => (t.pc, t.sp)) =
      some (0x0103, 0xD000) := by decide

/-- C12 (R257): CALL NC,0x0200 with C=0 (taken). -/
theorem test_C12_call_nc_taken :
    (after [0xD4, 0x00, 0x02]
        { State.reset with f := 0x00, sp := 0xD000 }).map (fun t => (t.pc, t.sp, Memory.read t.wram 0x0FFE, Memory.read t.wram 0x0FFF)) =
      some (0x0200, 0xCFFE, 0x03, 0x01) := by decide

/-- C13 (R258): RET. -/
theorem test_C13_ret :
    (after [0xC9]
        { State.reset with sp := 0xCFFE, wram := [(0xffe, 0x34), (0xfff, 0x12)] }).map (fun t => (t.pc, t.sp)) =
      some (0x1234, 0xD000) := by decide

/-- C14 (R259): RET C with C=0 (not taken). -/
theorem test_C14_ret_c_not_taken :
    (after [0xD8]
        { State.reset with sp := 0xCFFE, f := 0x00 }).map (fun t => (t.pc, t.sp)) =
      some (0x0101, 0xCFFE) := by decide

/-- C15 (R260): RETI. -/
theorem test_C15_reti :
    (after [0xD9]
        { State.reset with sp := 0xCFFE, ime := false, wram := [(0xfff, 0x02)] }).map (fun t => (t.pc, t.sp, t.ime)) =
      some (0x0200, 0xD000, true) := by decide

/-- C16 (R261): RST 0x38 at 0xC000. -/
theorem test_C16_rst_38 :
    (after [0xFF]
        { State.reset with pc := 0xC000, sp := 0xDFFE }).map (fun t => (t.pc, t.sp, Memory.read t.wram 0x1FFC, Memory.read t.wram 0x1FFD)) =
      some (0x0038, 0xDFFC, 0x01, 0xC0) := by decide

/-- C17 (R261): RST 0x08. -/
theorem test_C17_rst_08 :
    (after [0xCF]
        { State.reset with sp := 0xD000 }).map (fun t => (t.pc, t.sp, Memory.read t.wram 0x0FFE, Memory.read t.wram 0x0FFF)) =
      some (0x0008, 0xCFFE, 0x01, 0x01) := by decide

/-- C18 (R256, R320, R322): CALL 0x1234 with SP=0x2000 (push faults). -/
theorem test_C18_call_push_faults :
    (after [0xCD, 0x34, 0x12]
        { State.reset with sp := 0x2000 }).map (fun t => (t.sp, t.pc, t.status)) =
      some (0x1FFE, 0x0103, .faulted (.mapperConfigFault 0x1FFE 0x03)) := by decide

/-- B1 (R270): RLCA: 0x85. -/
theorem test_B1_rlca :
    (after [0x07]
        { State.reset with a := 0x85, f := 0x00 }).map (fun t => (t.a, t.f)) =
      some (0x0B, 0x10) := by decide

/-- B2 (R270): RLCA: 0x00 (Z stays 0). -/
theorem test_B2_rlca_clears_z :
    (after [0x07]
        { State.reset with a := 0x00, f := 0xF0 }).map (fun t => (t.a, t.f)) =
      some (0x00, 0x00) := by decide

/-- B3 (R271): RLA: 0x80, C=0. -/
theorem test_B3_rla :
    (after [0x17]
        { State.reset with a := 0x80, f := 0x00 }).map (fun t => (t.a, t.f)) =
      some (0x00, 0x10) := by decide

/-- B4 (R272): RRCA: 0x01. -/
theorem test_B4_rrca :
    (after [0x0F]
        { State.reset with a := 0x01, f := 0x00 }).map (fun t => (t.a, t.f)) =
      some (0x80, 0x10) := by decide

/-- B5 (R273): RRA: 0x01, C=0. -/
theorem test_B5_rra_out :
    (after [0x1F]
        { State.reset with a := 0x01, f := 0x00 }).map (fun t => (t.a, t.f)) =
      some (0x00, 0x10) := by decide

/-- B6 (R273): RRA: 0x00, C=1. -/
theorem test_B6_rra_in :
    (after [0x1F]
        { State.reset with a := 0x00, f := 0x10 }).map (fun t => (t.a, t.f)) =
      some (0x80, 0x00) := by decide

/-- B7 (R276): RLC B: 0x80. -/
theorem test_B7_rlc_b :
    (after [0xCB, 0x00]
        { State.reset with b := 0x80, f := 0x00 }).map (fun t => (t.b, t.f)) =
      some (0x01, 0x10) := by decide

/-- B8 (R276): RLC (HL): 0x00 at 0xC000. -/
theorem test_B8_rlc_mhl_zero :
    (after [0xCB, 0x06]
        { State.reset with h := 0xC0, l := 0x00, f := 0x10 }).map (fun t => (Memory.read t.wram 0x0000, t.f)) =
      some (0x00, 0x80) := by decide

/-- B9 (R277): RRC C: 0x01. -/
theorem test_B9_rrc_c :
    (after [0xCB, 0x09]
        { State.reset with c := 0x01, f := 0x00 }).map (fun t => (t.c, t.f)) =
      some (0x80, 0x10) := by decide

/-- B10 (R278): RL D: 0x80, C=0. -/
theorem test_B10_rl_d :
    (after [0xCB, 0x12]
        { State.reset with d := 0x80, f := 0x00 }).map (fun t => (t.d, t.f)) =
      some (0x00, 0x90) := by decide

/-- B12 (R280): SLA E: 0x80. -/
theorem test_B12_sla_e :
    (after [0xCB, 0x23]
        { State.reset with e := 0x80, f := 0x00 }).map (fun t => (t.e, t.f)) =
      some (0x00, 0x90) := by decide

/-- B13 (R281): SRA H: 0x81. -/
theorem test_B13_sra_h :
    (after [0xCB, 0x2C]
        { State.reset with h := 0x81, f := 0x00 }).map (fun t => (t.h, t.f)) =
      some (0xC0, 0x10) := by decide

/-- B14 (R282): SWAP A: 0xF0. -/
theorem test_B14_swap_a :
    (after [0xCB, 0x37]
        { State.reset with a := 0xF0, f := 0x70 }).map (fun t => (t.a, t.f)) =
      some (0x0F, 0x00) := by decide

/-- B15 (R282): SWAP L: 0x00. -/
theorem test_B15_swap_l_zero :
    (after [0xCB, 0x35]
        { State.reset with l := 0x00, f := 0x10 }).map (fun t => (t.l, t.f)) =
      some (0x00, 0x80) := by decide

/-- B16 (R283): SRL A: 0x01. -/
theorem test_B16_srl_a :
    (after [0xCB, 0x3F]
        { State.reset with a := 0x01, f := 0x00 }).map (fun t => (t.a, t.f)) =
      some (0x00, 0x90) := by decide

/-- B17 (R284): BIT 7,H: 0x80, C=1. -/
theorem test_B17_bit_7_h :
    (after [0xCB, 0x7C]
        { State.reset with h := 0x80, f := 0x10 }).map (fun t => (t.h, t.f)) =
      some (0x80, 0x30) := by decide

/-- B19 (R284): BIT 3,(HL) in VRAM. -/
theorem test_B19_bit_3_mhl :
    (after [0xCB, 0x5E]
        { State.reset with h := 0x80, l := 0x00, f := 0x00 }).map (fun t => t.f) =
      some 0xA0 := by decide

/-- B20 (R285): RES 7,A: 0xFF. -/
theorem test_B20_res_7_a :
    (after [0xCB, 0xBF]
        { State.reset with a := 0xFF, f := 0x50 }).map (fun t => (t.a, t.f)) =
      some (0x7F, 0x50) := by decide

/-- B21 (R286): SET 0,(HL) at 0xC000. -/
theorem test_B21_set_0_mhl :
    (after [0xCB, 0xC6]
        { State.reset with h := 0xC0, l := 0x00, f := 0x00 }).map (fun t => (Memory.read t.wram 0x0000, t.f)) =
      some (0x01, 0x00) := by decide

/-- P3 (R302): STOP (10 00). -/
theorem test_P3_stop :
    (after [0x10, 0x00]
        State.reset).map (fun t => (t.pc, t.halted)) =
      some (0x0102, true) := by decide

/-- P4 (R303): DI. -/
theorem test_P4_di :
    (after [0xF3]
        { State.reset with ime := true }).map (fun t => t.ime) =
      some false := by decide

/-- P5 (R304): EI. -/
theorem test_P5_ei :
    (after [0xFB]
        { State.reset with ime := false }).map (fun t => t.ime) =
      some true := by decide

/-- P6 (R305): SCF. -/
theorem test_P6_scf :
    (after [0x37]
        { State.reset with f := 0xE0 }).map (fun t => t.f) =
      some 0x90 := by decide

/-- P7 (R306): CCF with C=1. -/
theorem test_P7_ccf_set :
    (after [0x3F]
        { State.reset with f := 0x70 }).map (fun t => t.f) =
      some 0x00 := by decide

/-- P8 (R306): CCF with C=0. -/
theorem test_P8_ccf_clear :
    (after [0x3F]
        { State.reset with f := 0x80 }).map (fun t => t.f) =
      some 0x90 := by decide

/-- S1: the cost. -/
theorem test_S1_cost_nop : costOf [0x00] State.reset = some 4 := by decide

/-- S2: the cost. -/
theorem test_S2_cost_call : costOf [0xCD, 0x34, 0x12] State.reset = some 12 := by decide

/-- S5: the cost. -/
theorem test_S5_cost_extended : costOf [0xCB, 0x19] State.reset = some 9 := by decide

/-- B21: the cost. -/
theorem test_B21_cost_extended_mhl : costOf [0xCB, 0xC6] { State.reset with h := 0xC0 } = some 17 := by decide

/-- R370: NOP costs 4 and CALL a16 12 whatever the table holds there; LD B,C costs what the table holds. -/
theorem test_R370_fixed_costs :
    let s := { State.reset with params := { Params.default with cyclesPrimary := List.replicate 256 7 } }
    (costOf [0x00] s, costOf [0xCD, 0x00, 0xC0] s, costOf [0x41] s) = (some 4, some 12, some 7) := by decide

/-! ### Witnesses: the hypotheses of every obligation are met, each clause at a boundary of its range -/

theorem witness_DecodeReadsBackEncode :
    (Instr.ld_BC_d16 0xFFFF).wf = true ∧ (Instr.rst_38).wf = true ∧ (Instr.illegal 0xFD).wf = true := by decide

theorem witness_EncodeReadsBackDecode :
    decode [0x01, 0xFF, 0xFF, 0x76] = .ok (.ld_BC_d16 0xFFFF, [0x76]) ∧ decode [0xCB, 0xFF] = .ok (.set_7_A, []) :=
  ⟨rfl, rfl⟩

theorem witness_FirstByteFixesLength :
    (0xFE : Byte) ≠ 0xCB ∧ bytesAfter 0xFE = 1 ∧ bytesAfter 0xFA = 2 ∧ bytesAfter 0xFF = 0 := by decide

/-- The reset state with the bytes of an instruction at PC. -/
def loaded (bytes : List Byte) : State := placeBytes 0x0100 bytes State.reset

theorem witness_StepRunsDecodedInstruction_one_byte :
    Running (loaded [0x41]) ∧ readValue (loaded [0x41]).pc (loaded [0x41]) = .ok 0x41 ∧
      0x41 ∉ (loaded [0x41]).params.unimplementedOpcodes ∧ (0x41 : Byte) ∉ illegalOpcodes ∧ bytesAfter 0x41 = 0 ∧
      decode [0x41, 0x00, 0x00] = .ok (.ld_B_C, [0x00, 0x00]) :=
  ⟨by decide, rfl, by decide, by decide, rfl, rfl⟩

/-- LD A,0x5A with its opcode at 0xFFFF and its immediate at 0x0000: the fetch and PC wrap. -/
theorem witness_StepRunsDecodedInstruction_wraps :
    let s := { State.reset with pc := 0xFFFF, ie := 0x3E, params := { Params.default with rom := [(0, 0x5A)] } }
    Running s ∧ readValue 0xFFFF s = .ok 0x3E ∧ 0x3E ∉ s.params.unimplementedOpcodes ∧ (0x3E : Byte) ∉ illegalOpcodes ∧
      bytesAfter 0x3E = 1 ∧ readValue (0xFFFF + 1) s = .ok 0x5A ∧
      decode [0x3E, 0x5A, 0x00] = .ok (.ld_A_d8 0x5A, [0x00]) ∧ step s = .next { s with a := 0x5A, pc := 0x0001 } :=
  ⟨by decide, rfl, by decide, by decide, rfl, rfl, rfl, rfl⟩

theorem witness_StepRunsDecodedInstruction_three_bytes :
    Running (loaded [0xC3, 0x34, 0x12]) ∧ readValue 0x0100 (loaded [0xC3, 0x34, 0x12]) = .ok 0xC3 ∧
      0xC3 ∉ (loaded [0xC3, 0x34, 0x12]).params.unimplementedOpcodes ∧ (0xC3 : Byte) ∉ illegalOpcodes ∧
      readValue 0x0101 (loaded [0xC3, 0x34, 0x12]) = .ok 0x34 ∧
      readValue 0x0102 (loaded [0xC3, 0x34, 0x12]) = .ok 0x12 ∧
      decode [0xC3, 0x34, 0x12] = .ok (.jp_a16 0x1234, []) :=
  ⟨by decide, rfl, by decide, by decide, rfl, rfl, rfl⟩

theorem witness_StepRunsDecodedInstruction_prefixed :
    Running (loaded [0xCB, 0x19]) ∧ readValue 0x0100 (loaded [0xCB, 0x19]) = .ok 0xCB ∧
      (0xCB : Byte) ∉ illegalOpcodes ∧
      readValue 0x0101 (loaded [0xCB, 0x19]) = .ok 0x19 ∧ bytesAfter 0xCB = 1 ∧
      decode [0xCB, 0x19, 0x00] = .ok (.rr_C, [0x00]) :=
  ⟨by decide, rfl, by decide, rfl, rfl, rfl⟩

/-- The reset state with a ROM image of `n` bytes. -/
def romOf (n : Nat) (rom : Memory) : State := { State.reset with params := { Params.default with romLen := n, rom := rom } }

theorem witness_DecodeFaultsLeavePC_illegal :
    Running (loaded [0xD3]) ∧ readValue 0x0100 (loaded [0xD3]) = .ok 0xD3 ∧ (0xD3 : Byte) ∈ illegalOpcodes :=
  ⟨by decide, rfl, by decide⟩

/-- The reset state with `bytes` at PC and `ops` as `unimplemented_opcodes`. -/
def lacking (ops : List Byte) (bytes : List Byte) : State :=
  { loaded bytes with params := { (loaded bytes).params with unimplementedOpcodes := ops } }

theorem witness_DecodeFaultsLeavePC_unimplemented :
    Running (lacking [0x27] [0x27]) ∧ readValue 0x0100 (lacking [0x27] [0x27]) = .ok 0x27 ∧ (0x27 : Byte) ≠ 0xCB ∧
      0x27 ∈ (lacking [0x27] [0x27]).params.unimplementedOpcodes ∧
      step (lacking [0x27] [0x27]) = .next (enterFault (.decodeFault 0x0100 0x27) (lacking [0x27] [0x27])) :=
  ⟨by decide, rfl, by decide, by decide, rfl⟩

theorem witness_DecodeFaultsLeavePC_prefix :
    Running (lacking [0xCB] [0xCB, 0x19]) ∧ readValue 0x0100 (lacking [0xCB] [0xCB, 0x19]) = .ok 0xCB ∧
      readValue 0x0101 (lacking [0xCB] [0xCB, 0x19]) = .ok 0x19 ∧ decode [0xCB, 0x19] = .ok (.rr_C, []) ∧
      0xCB ∈ (lacking [0xCB] [0xCB, 0x19]).params.unimplementedOpcodes :=
  ⟨by decide, rfl, rfl, rfl, by decide⟩

theorem witness_DecodeFaultsLeavePC_first_byte :
    Running (romOf 0x0100 []) ∧ ¬ Readable (romOf 0x0100 []).pc (romOf 0x0100 []) := by decide

theorem witness_DecodeFaultsLeavePC_second_byte :
    Running (romOf 0x0101 [(0x0100, 0x3E)]) ∧ readValue 0x0100 (romOf 0x0101 [(0x0100, 0x3E)]) = .ok 0x3E ∧
      0x3E ∉ (romOf 0x0101 [(0x0100, 0x3E)]).params.unimplementedOpcodes ∧ bytesAfter 0x3E = 1 ∧
      ¬ Readable 0x0101 (romOf 0x0101 [(0x0100, 0x3E)]) :=
  ⟨by decide, rfl, by decide, rfl, by decide⟩

theorem witness_DecodeFaultsLeavePC_third_byte :
    Running (romOf 0x0102 [(0x0100, 0xC3)]) ∧ readValue 0x0100 (romOf 0x0102 [(0x0100, 0xC3)]) = .ok 0xC3 ∧
      0xC3 ∉ (romOf 0x0102 [(0x0100, 0xC3)]).params.unimplementedOpcodes ∧ bytesAfter 0xC3 = 2 ∧
      Readable 0x0101 (romOf 0x0102 [(0x0100, 0xC3)]) ∧ ¬ Readable 0x0102 (romOf 0x0102 [(0x0100, 0xC3)]) :=
  ⟨by decide, rfl, by decide, rfl, by decide, by decide⟩

theorem witness_FaultedStateHasNoNextState :
    (enterFault (.decodeFault 0x0100 0xD3) State.reset).status = .faulted (.decodeFault 0x0100 0xD3) := rfl

theorem witness_HaltedStepChangesNothing :
    { State.reset with halted := true }.status = .running ∧ { State.reset with halted := true }.halted = true := by decide

theorem witness_RunningStepAlwaysAnswersNext : State.reset.status = .running := rfl

theorem witness_StepKeepsInvariant : State.reset.Inv ∧ step State.reset = .next { State.reset with pc := 0x0101 } :=
  ⟨by decide, rfl⟩

theorem witness_StepNeverWritesRom :
    step State.reset = .next { State.reset with pc := 0x0101 } ∧ (0x7FFF : Word).toNat ≤ 0x7FFF := ⟨rfl, by decide⟩

theorem witness_UnreadStateIsNeverRead :
    forgetUnread State.reset = forgetUnread { State.reset with ime := true, serialLine := [0x41] } ∧
      step State.reset = .next { State.reset with pc := 0x0101 } := ⟨rfl, rfl⟩

theorem witness_StepReturnsTheCycleCost_primary :
    Running State.reset ∧ step State.reset = .next { State.reset with pc := 0x0101 } ∧
      readValue 0x0100 State.reset = .ok 0x00 := ⟨by decide, rfl, rfl⟩

theorem witness_StepReturnsTheCycleCost_call :
    Running (loaded [0xCD]) ∧ readValue 0x0100 (loaded [0xCD]) = .ok 0xCD ∧
      ∃ t, step (loaded [0xCD]) = .next t ∧ t.status = .running := ⟨by decide, rfl, _, rfl, by decide⟩

theorem witness_StepReturnsTheCycleCost_table :
    Running (loaded [0x41]) ∧ readValue 0x0100 (loaded [0x41]) = .ok 0x41 ∧
      step (loaded [0x41]) = .next { loaded [0x41] with pc := 0x0101 } := ⟨by decide, rfl, rfl⟩

theorem witness_StepReturnsTheCycleCost_prefixed :
    Running (loaded [0xCB, 0x00]) ∧ step (loaded [0xCB, 0x00]) = .next { loaded [0xCB, 0x00] with pc := 0x0102, f := 0x80 } ∧
      readValue 0x0100 (loaded [0xCB, 0x00]) = .ok 0xCB ∧ readValue 0x0101 (loaded [0xCB, 0x00]) = .ok 0x00 :=
  ⟨by decide, rfl, rfl, rfl⟩

theorem witness_StepReturnsTheCycleCost_faulted :
    Running (loaded [0xD3]) ∧ readValue 0x0100 (loaded [0xD3]) = .ok 0xD3 ∧
      step (loaded [0xD3]) = .next (enterFault (.decodeFault 0x0100 0xD3) (loaded [0xD3])) := ⟨by decide, rfl, rfl⟩

theorem witness_ConstructionPicksMapper :
    Params.default.cartTypeCode ∈ Params.default.mapperForType ∧
      { Params.default with cartTypeCode := 0x00 }.cartTypeCode ∉ Params.default.mapperForType := by decide

theorem witness_RomReads :
    (0x3FFF : Word).toNat ≤ 0x3FFF ∧ (0x4000 : Word).toNat ≤ 0x7FFF ∧ (0x7FFF : Word).toNat < State.reset.params.romLen ∧
      (romOf 0x4000 []).params.romLen ≤ (0x4000 : Word).toNat ∧
      { Params.default with romReadMode := .banked }.romReadMode = .banked := by decide

theorem witness_WorkRamAndEcho :
    (0xC000 : Word).toNat = 0xC000 + 0 ∧ (0xE000 : Word).toNat = 0xE000 + 0 ∧ (0xDFFF : Word).toNat = 0xC000 + 0x1FFF ∧
      (0xFDFF : Word).toNat = 0xE000 + 0x1DFF ∧ (0xDDFF : Word).toNat = 0xC000 + 0x1DFF ∧
      (0xDE00 : Word).toNat = 0xC000 + 0x1E00 ∧ (0xFE00 : Word) ≠ 0xDE00 ∧
      Memory.wf State.reset.wram = true ∧ writeByte 0xFDFF 0x6C State.reset = .done () { State.reset with wram := [(0x1DFF, 0x6C)] } :=
  ⟨rfl, rfl, rfl, rfl, rfl, rfl, by decide, rfl, rfl⟩

theorem witness_StubRegions :
    (0x8000 ≤ (0x8000 : Word).toNat ∧ (0x9FFF : Word).toNat ≤ 0x9FFF) ∧
      (0xFE00 ≤ (0xFE00 : Word).toNat ∧ (0xFE9F : Word).toNat ≤ 0xFE9F) ∧
      (0xFEA0 ≤ (0xFEA0 : Word).toNat ∧ (0xFEFF : Word).toNat ≤ 0xFEFF) ∧
      (0xFF00 ≤ (0xFF00 : Word).toNat ∧ (0xFF4B : Word).toNat ≤ 0xFF4B ∧ (0xFF4B : Word).toNat ≠ 0xFF01) ∧
      (0xFF4C ≤ (0xFF4C : Word).toNat ∧ (0xFF7F : Word).toNat ≤ 0xFF7F) := by decide

theorem witness_HighRam :
    (0xFF80 : Word).toNat = 0xFF80 + 0 ∧ (0xFFFE : Word).toNat = 0xFF80 + 126 ∧ 126 < 127 := by decide

theorem witness_SerialPort : (0x41 : Byte) ≠ 0x0A ∧ (0x0A : Byte) = 0x0A := by decide

theorem witness_MapperWrites :
    (0x2000 ≤ (0x2000 : Word).toNat ∧ (0x3FFF : Word).toNat ≤ 0x3FFF) ∧
      (0x6000 ≤ (0x6000 : Word).toNat ∧ (0x7FFF : Word).toNat ≤ 0x7FFF) ∧
      (0x1FFF : Word).toNat ≤ 0x1FFF ∧ (0x4000 ≤ (0x4000 : Word).toNat ∧ (0x5FFF : Word).toNat ≤ 0x5FFF) := by decide

theorem witness_CartridgeRam :
    (0xA000 : Word).toNat = 0xA000 + 0 ∧ (0xBFFF : Word).toNat = 0xA000 + 0x1FFF ∧
      State.reset.params.cartRamMode = .stub ∧ { Params.default with cartRamMode := .backed8K }.cartRamMode = .backed8K := by
  decide

theorem witness_WordAccessesAreTwoByteAccesses_read :
    readByte 0xFFFE { State.reset with ie := 0x12, hram := [(126, 0x34)] } =
        .done 0x34 { State.reset with ie := 0x12, hram := [(126, 0x34)] } ∧
      readByte (0xFFFE + 1) { State.reset with ie := 0x12, hram := [(126, 0x34)] } =
        .done 0x12 { State.reset with ie := 0x12, hram := [(126, 0x34)] } := by decide +kernel

theorem witness_WordAccessesAreTwoByteAccesses_write :
    writeByte 0xFF80 (lowByte 0x1234) State.reset = .done () { State.reset with hram := [(0, 0x34)] } ∧
      lowByte 0x1234 = BitVec.ofNat 8 (0x1234 : Word).toNat ∧
      writeByte 0xFF81 (highByte 0x1234) { State.reset with hram := [(0, 0x34)] } =
        .done () { State.reset with hram := [(0, 0x34), (1, 0x12)] } ∧
      highByte 0x1234 = BitVec.ofNat 8 ((0x1234 : Word).toNat / 256) ∧
      writeByte 0x0000 0x34 State.reset = .raised (.mapperConfigFault 0x0000 0x34) State.reset := by decide +kernel

theorem witness_StoreIsReadBackAndChangesNothingElse :
    State.reset.Inv ∧ writeByte 0xC000 0x5A State.reset = .done () { State.reset with wram := [(0, 0x5A)] } ∧
      Stored 0xC000 State.reset ∧ SameByte 0xC000 0xE000 ∧ ¬ SameByte 0xC000 0xC001 ∧ ¬ SeenThroughBank 0xC000 0x4000 ∧
      Stored 0xFDFF State.reset ∧ Stored 0xFFFF State.reset := by
  refine ⟨by decide, rfl, by decide, .inr (by decide), ?_, by decide, by decide, by decide⟩
  rintro (h | h)
  · revert h; decide
  · revert h; decide

/-- The reset state with cartridge RAM as storage. -/
def backed : State := { State.reset with params := { Params.default with cartRamMode := .backed8K } }

theorem witness_StoreIsReadBackAndChangesNothingElse_backed :
    backed.Inv ∧ writeByte 0xBFFF 0x5A backed = .done () { backed with cartRam := [(0x1FFF, 0x5A)] } ∧
      Stored 0xBFFF backed ∧ Stored 0xA000 backed ∧ ¬ Stored 0xA000 State.reset :=
  ⟨by decide, rfl, by decide, by decide, by decide⟩

theorem witness_LoadsFromMemory : Readable 0x7FFF State.reset ∧ ¬ Readable 0x4000 (romOf 0x4000 []) := by decide

theorem witness_StoresToMemory :
    Writable 0x2000 ∧ Writable 0x3FFF ∧ Writable 0x6000 ∧ Writable 0xFFFF ∧ ¬ Writable 0x1FFF ∧ ¬ Writable 0x5FFF := by
  decide

theorem witness_LoadsAndStoresThatStepHL :
    (0xFFFF : Word) = wordOfBytes { State.reset with h := 0xFF, l := 0xFF }.h { State.reset with h := 0xFF, l := 0xFF }.l ∧
      Writable 0xFFFF ∧ ¬ Writable 0x0000 ∧ Readable 0x0000 State.reset ∧ ¬ Readable 0x0000 (romOf 0x0000 []) := by
  decide

theorem witness_words_stored :
    (Writable 0xFFFE ∧ Writable (0xFFFE + 1)) ∧ ¬ Writable 0x1FFE ∧ (Writable 0xFFFF ∧ ¬ Writable (0xFFFF + 1)) := by decide

theorem witness_words_loaded :
    (Readable 0xFFFF State.reset ∧ Readable (0xFFFF + 1) State.reset) ∧ ¬ Readable 0x4000 (romOf 0x4000 []) ∧
      (Readable 0x3FFF (romOf 0x4000 []) ∧ ¬ Readable (0x3FFF + 1) (romOf 0x4000 [])) := by decide

theorem witness_PushThenPopRestores :
    State.reset.Inv ∧ Stored (State.reset.sp - 2) State.reset ∧ Stored (State.reset.sp - 1) State.reset := by decide

theorem witness_targets :
    TargetReadable (.reg .B) State.reset ∧ TargetReadable .mHL State.reset ∧ TargetWritable (.reg .B) State.reset ∧
      TargetWritable .mHL { State.reset with h := 0xC0 } ∧ ¬ TargetReadable .mHL (romOf 0x0000 []) ∧
      ¬ TargetWritable .mHL State.reset :=
  ⟨trivial, by show Readable _ _; decide, trivial, by show Writable _; decide, by show ¬ Readable _ _; decide,
    by show ¬ Writable _; decide⟩

theorem witness_AddAndAdc :
    (AluOp.ADC = .ADD ∧ (1 : Nat) = 0 ∨ AluOp.ADC = .ADC ∧ (1 : Nat) = if State.reset.f.getLsbD 4 then 1 else 0) ∧
      (AluOp.ADD = .ADD ∧ (0 : Nat) = 0) := by decide

theorem witness_SubSbcAndCp :
    (AluOp.SBC = .SBC ∧ (1 : Nat) = if State.reset.f.getLsbD 4 then 1 else 0) ∧ (AluOp.SUB = .SUB ∧ (0 : Nat) = 0) ∧
      (AluOp.CP = .CP ∧ (0 : Nat) = 0) := by decide

theorem witness_DecimalAdjustAndComplement :
    let s := { State.reset with a := 0x9A, f := 0x00 }
    false = s.f.getLsbD 6 ∧ (true = true ↔ s.f.getLsbD 5 = true ∨ false = false ∧ s.a.toNat % 16 > 9) ∧
      (true = true ↔ s.f.getLsbD 4 = true ∨ false = false ∧ s.a.toNat > 0x99) ∧
      (0x66 : Byte) = (if true then 0x06 else 0x00) + (if true then 0x60 else 0x00) ∧
      (0x00 : Byte) = (if false then s.a - 0x66 else s.a + 0x66) := by decide

theorem witness_DecimalAdjustGivesDecimalResult :
    99 < 100 ∧ { State.reset with a := 0x99 }.a = BitVec.ofNat 8 (99 / 10 * 16 + 99 % 10) := by decide

theorem witness_SixteenBitArithmetic :
    (0xFFFF : Nat) = (wordOfBytes { State.reset with h := 0xFF, l := 0xFF }.h { State.reset with h := 0xFF, l := 0xFF }.l).toNat ∧
      (0xFFFE : Nat) = (getPair Rp.SP.pair State.reset).toNat := by decide

theorem witness_StackPointerOffsets :
    (0xFF7E : Word) = BitVec.ofInt 16 (State.reset.sp.toNat +
        (if (0x80 : Byte).toNat < 128 then ((0x80 : Byte).toNat : Int) else (0x80 : Byte).toNat - 256)) ∧
      (0x10 : Byte) = flagByte false false (decide (State.reset.sp.toNat % 16 + (0x80 : Byte).toNat % 16 > 15))
        (decide (State.reset.sp.toNat % 256 + (0x80 : Byte).toNat > 255)) := by decide

theorem witness_Jumps :
    true = (match Cond.Z with
      | .NZ => !State.reset.f.getLsbD 7
      | .Z => State.reset.f.getLsbD 7
      | .NC => !State.reset.f.getLsbD 4
      | .C => State.reset.f.getLsbD 4) ∧
    (0x0080 : Word) = BitVec.ofInt 16 (State.reset.pc.toNat +
      (if (0x80 : Byte).toNat < 128 then ((0x80 : Byte).toNat : Int) else (0x80 : Byte).toNat - 256)) := by decide

theorem witness_CallsAndRestarts : condition .Z State.reset = true ∧ condition .NZ State.reset = false := by decide

theorem witness_Returns :
    condition .C State.reset = true ∧ condition .NC State.reset = false ∧ Readable 0xFFFE State.reset ∧
      Readable (0xFFFE + 1) State.reset := by decide

theorem witness_AccumulatorRotates : (0 : Nat) = State.reset.a.toNat ∧ (1 : Nat) = if State.reset.f.getLsbD 4 then 1 else 0 := by
  decide

theorem witness_ExtendedRotatesAndShifts : (0 : Nat) = if { State.reset with f := 0xE0 }.f.getLsbD 4 then 1 else 0 := by
  decide

theorem witness_BitOperations : (7 : Nat) = Bit3.b7.code.toNat ∧ (0 : Nat) = Bit3.b0.code.toNat := by decide

theorem witness_HaltStopEnableAndIllegal :
    State.reset.params.haltMode = .stall ∧ { Params.default with haltMode := .nop }.haltMode = .nop := by decide

theorem witness_FrameOfRegisterForms :
    State.reset.status = .running ∧ exec .ld_B_C State.reset = .next State.reset ∧ AluOp.ADD ≠ AluOp.CP ∧
      Reg8.C ∉ [Reg8.B] ∧ (0xC000 : Word) ≠ 0xFF01 := ⟨rfl, rfl, by decide, by decide, by decide⟩

theorem witness_FrameOfLoadForms :
    exec .ret { State.reset with sp := 0xC000 } = .next { State.reset with sp := 0xC002, pc := 0x0000 } ∧
      AluOp.XOR ≠ AluOp.CP := ⟨rfl, by decide⟩

/-- A form that is no jump, call or return keeps PC; a jump does not. -/
theorem witness_KeepsRest_pc :
    ({ regs := [.B] } : MayWrite).pc = false ∧
      exec (.jp_a16 0xC000) State.reset = .next { State.reset with pc := 0xC000 } := ⟨rfl, rfl⟩

theorem witness_FrameOfStoreForms :
    exec .ld_mHL_A { State.reset with h := 0xC0, a := 0x01 } =
        .next { State.reset with h := 0xC0, a := 0x01, wram := [(0, 0x01)] } ∧
      ¬ SameByte 0xC000 0xC001 ∧ ¬ SeenThroughBank 0xC000 0xC001 ∧ 0x8000 ≤ (0xC000 : Word).toNat ∧
      (0xFF01 : Word) ∉ [(0xC000 : Word)] := by
  refine ⟨rfl, ?_, by decide, by decide, by decide⟩
  rintro (h | h)
  · revert h; decide
  · revert h; decide

theorem witness_OnlyListedInstructionsWriteSP :
    exec .inc_SP State.reset = .next { State.reset with sp := 0xFFFF } ∧
      { State.reset with sp := 0xFFFF }.sp ≠ State.reset.sp := ⟨rfl, by decide⟩

theorem witness_OnlyListedInstructionsWriteControlBits :
    exec .ei State.reset = .next { State.reset with ime := true } ∧
      { State.reset with ime := true }.ime ≠ State.reset.ime ∧
      exec .halt State.reset = .next { State.reset with halted := true } ∧
      { State.reset with halted := true }.halted ≠ State.reset.halted := ⟨rfl, by decide, rfl, by decide⟩

theorem witness_OnlyControlWritesChangeMapper :
    writeByte 0x2000 0x02 State.reset = .done () { State.reset with romBank := 0x02 } ∧
      { State.reset with romBank := 0x02 }.romBank ≠ State.reset.romBank ∧
      writeByte 0x7FFF 0x01 State.reset = .done () { State.reset with mapperMode := .rom4M_ram32K } ∧
      exec .ld_mHL_A { State.reset with h := 0x20, a := 0x02 } =
        .next { State.reset with h := 0x20, a := 0x02, romBank := 0x02 } := ⟨rfl, by decide, rfl, rfl⟩

/-- Both stack bytes of a PUSH, at the ends of the mode range: the second store decides. -/
theorem witness_OnlyControlWritesChangeMapper_push :
    exec .push_BC { State.reset with sp := 0x8000, b := 0x01 } =
        .next { State.reset with sp := 0x7FFE, b := 0x01, mapperMode := .rom4M_ram32K } ∧
      storesAt .push_BC { State.reset with sp := 0x8000, b := 0x01 } = [0x7FFE, 0x7FFF] := ⟨rfl, rfl⟩

end Sys2Proof.Tests
end

section
/-! PROOFS. What every step keeps: the invariant of 10_state.md R21, R35, R36, R39, R40, the parameters and the ROM
image (R38), and the fields that only listed instructions write (R24, R32, R33). Each is a relation that the named
updates keep (`Closed`). -/

namespace Sys2Proof.Machine

/-! ### The three kinds of step -/

/-- A step from what its fetch answers: execute, or take the fault of Decode (30_encoding.md R100). -/
def afterFetch (r : Access Fetched) : Result :=
  match r with
  | .raised f s => .next (enterFault f s)
  | .done d s => exec d.instr (advance d.len s)

theorem step_of_faulted {s : State} {f : FaultRecord} (h : s.status = .faulted f) : step s = .fault (.stopped f) := by
  simp only [step, h]

theorem step_of_halted {s : State} (hrun : s.status = .running) (hhalt : s.halted = true) : step s = .next s := by
  simp only [step, hrun, hhalt, if_true]

theorem step_of_running {s : State} (hrun : s.status = .running) (hhalt : s.halted = false) :
    step s = afterFetch (fetch s) := by
  cases hfetch : fetch s with
  | done d u => simp [step, afterFetch, hrun, hhalt, hfetch]
  | raised f u => simp [step, afterFetch, hrun, hhalt, hfetch]

/-! ### Where a write goes -/

/-- A write to a ROM address goes to the mapper (20_memory.md R72). -/
theorem writeByte_of_rom {addr : Word} (h : addr.toNat < 0x8000) (v : Byte) (s : State) :
    writeByte addr v s = mapperWrite addr v s := by
  unfold writeByte
  rcases (region_rom_iff addr).2 h with hr | hr <;> rw [hr]

/-- A write to an address of no ROM leaves the mapper alone. -/
theorem writeByte_mapper_of_ge {addr : Word} {v : Byte} {s t : State} (h : 0x8000 ≤ addr.toNat)
    (hw : writeByte addr v s = .done () t) : t.romBank = s.romBank ∧ t.mapperMode = s.mapperMode := by
  have hrom : ¬ (region addr = .romBank ∨ region addr = .romFixed) := by
    rw [region_rom_iff]
    omega
  unfold writeByte at hw
  split at hw
  case h_4 => cases hw; simp
  case h_10 => split at hw <;> cases hw <;> exact ⟨rfl, rfl⟩
  case h_12 hr => exact absurd (.inl hr) hrom
  case h_13 hr => exact absurd (.inr hr) hrom
  all_goals (cases hw; exact ⟨rfl, rfl⟩)

/-- What a write does to the mapper (20_memory.md R74 to R76): in the one control range the bank is selected, in the
other the mode, and nowhere else does either change. -/
theorem writeByte_mapper {addr : Word} {v : Byte} {s t : State} (hw : writeByte addr v s = .done () t) :
    (t.romBank = s.romBank ∨
      (0x2000 ≤ addr.toNat ∧ addr.toNat ≤ 0x3FFF) ∧ t.romBank = selectBank s.params.romBankMask v) ∧
    (t.mapperMode = s.mapperMode ∨ 0x6000 ≤ addr.toNat ∧ addr.toNat ≤ 0x7FFF) := by
  by_cases hrom : addr.toNat < 0x8000
  · rw [writeByte_of_rom hrom, mapperWrite] at hw
    split_ifs at hw with hbank hmode <;> cases hw
    · exact ⟨.inr ⟨hbank, rfl⟩, .inl rfl⟩
    · exact ⟨.inl rfl, .inr hmode⟩
  · obtain ⟨hbank, hmode⟩ := writeByte_mapper_of_ge (by omega) hw
    exact ⟨.inl hbank, .inl hmode⟩

/-- The bank a write selects is legal under the mask it was selected with (10_state.md R39, 20_memory.md R74). -/
theorem bankLegal_of_selectBank {t : State} {v : Byte} (h : t.romBank = selectBank t.params.romBankMask v) :
    BankLegal t := by
  unfold BankLegal
  rw [h, selectBank]
  split_ifs with hzero
  · exact ⟨by decide, .inl rfl⟩
  · exact ⟨hzero, .inr (by rw [BitVec.and_assoc, BitVec.and_self])⟩

/-! ### The fields that no write, read, jump or fault touches -/

/-- A function of SP, IME, `halted` and the parameters is the same before and after every named update of `Closed`. -/
theorem closed_of_control {γ : Type} (g : State → γ)
    (hg : ∀ {s t : State}, t.sp = s.sp → t.ime = s.ime → t.halted = s.halted → t.params = s.params → g t = g s) :
    Closed fun s t => g t = g s where
  refl _ := rfl
  trans h1 h2 := h2.trans h1
  reg r v s := hg (by simp) (by simp) (by simp) (by simp)
  flags _ _ _ _ _ := hg rfl rfl rfl rfl
  statusF _ _ := hg rfl rfl rfl rfl
  pc _ _ := hg rfl rfl rfl rfl
  read addr s := hg (by simp) (by simp) (by simp) (by simp)
  write hw := by
    have hkeep := writeByte_keeps hw
    exact hg (by rw [hkeep]) (by rw [hkeep]) (by rw [hkeep]) (by rw [hkeep])
  fault _ _ := hg rfl rfl rfl rfl

theorem closed_sp : Closed fun s t => t.sp = s.sp := closed_of_control State.sp fun h _ _ _ => h

theorem closed_ime : Closed fun s t => t.ime = s.ime := closed_of_control State.ime fun _ h _ _ => h

theorem closed_halted : Closed fun s t => t.halted = s.halted := closed_of_control State.halted fun _ _ h _ => h

theorem closed_params : Closed fun s t => t.params = s.params := closed_of_control State.params fun _ _ _ h => h

theorem step_params {s t : State} (h : step s = .next t) : t.params = s.params :=
  step_closed closed_params (fun _ _ => rfl) (fun _ _ => rfl) (fun _ _ => rfl) h

/-! ### The bank stays legal -/

/-- The bank is the same or a legal one, the parameters being the same: kept by every named update. -/
theorem closed_bank :
    Closed fun s t => t.params = s.params ∧ (t.romBank = s.romBank ∨ BankLegal t) where
  refl _ := ⟨rfl, .inl rfl⟩
  trans := by
    rintro s t u ⟨hp1, hb1⟩ ⟨hp2, hb2⟩
    refine ⟨hp2.trans hp1, ?_⟩
    rcases hb2 with hb2 | hlegal
    · unfold BankLegal at *
      rw [hp2, hb2]
      exact hb1
    · exact .inr hlegal
  reg r v s := ⟨by simp, .inl (by simp)⟩
  flags _ _ _ _ _ := ⟨rfl, .inl rfl⟩
  statusF _ _ := ⟨rfl, .inl rfl⟩
  pc _ _ := ⟨rfl, .inl rfl⟩
  read addr s := ⟨by simp, .inl (by simp)⟩
  write {_ _ s t} hw := by
    have hp : t.params = s.params := closed_params.write hw
    refine ⟨hp, (writeByte_mapper hw).1.imp_right fun ⟨_, hsel⟩ => ?_⟩
    exact bankLegal_of_selectBank (hp ▸ hsel)
  fault _ _ := ⟨rfl, .inl rfl⟩

theorem exec_bank {i : Instr} {s t : State} (h : exec i s = .next t) : t.romBank = s.romBank ∨ BankLegal t :=
  (exec_closed closed_bank i (fun _ _ _ => ⟨rfl, .inl rfl⟩) (fun _ _ _ => ⟨rfl, .inl rfl⟩)
    (fun _ _ _ => ⟨rfl, .inl rfl⟩) s t h).2

/-! ### The invariant -/

/-- The flags are written with F's low nibble 0 (10_state.md R21). -/
theorem flagByte_low (z n h c : Bool) : flagByte z n h c &&& 0x0F = 0x00 := by
  revert z n h c
  decide

/-- Every named update keeps the invariant. -/
theorem closed_inv : Closed fun s t => s.Inv → t.Inv where
  refl _ := id
  trans h1 h2 := h2 ∘ h1
  reg r v s h := by simpa [State.Inv, BankLegal] using h
  flags z n h c s := fun ⟨_, hrest⟩ => ⟨flagByte_low z n h c, hrest⟩
  statusF v s := fun ⟨_, hrest⟩ => ⟨by simp [BitVec.and_assoc], hrest⟩
  pc _ _ := id
  read addr s h := by rw [afterRead_eq]; exact h
  write {_ _ s t} hw := by
    rintro ⟨hf, hbank, harrays⟩
    obtain ⟨hp, hb⟩ := closed_bank.write hw
    refine ⟨by rw [writeByte_keeps hw]; exact hf, hb.elim (fun hb => ?_) id, writeByte_arrays hw harrays⟩
    unfold BankLegal
    rw [hp, hb]
    exact hbank
  fault _ _ := id

end Sys2Proof.Machine

open Sys2Proof Sys2Proof.Machine

/-- Settles O11: the invariant is kept by every named update, and a step makes no others. -/
theorem stepKeepsInvariant : Obligations.StepKeepsInvariant := fun _ _ hs h =>
  step_closed closed_inv (fun _ _ => id) (fun _ _ => id) (fun _ _ => id) h hs

/-- Settles O13: no named update touches the parameters, and a ROM address is one below 0x8000. -/
theorem stepNeverWritesRom : Obligations.StepNeverWritesRom :=
  ⟨fun _ _ => step_params, fun _ v s h => writeByte_of_rom (by omega) v s⟩

/-- Settles O57: an instruction outside the list makes only updates that keep SP. -/
theorem onlyListedInstructionsWriteSP : Obligations.OnlyListedInstructionsWriteSP := by
  intro i s t h hne
  by_contra hw
  exact hne (exec_closed closed_sp i (absurd · hw) (fun _ _ _ => rfl) (fun _ _ _ => rfl) s t h)

/-- Settles O58: an instruction outside the lists makes only updates that keep the bit. -/
theorem onlyListedInstructionsWriteControlBits : Obligations.OnlyListedInstructionsWriteControlBits := by
  intro i s t h
  constructor
  · intro hne
    by_contra hw
    exact hne (exec_closed closed_ime i (fun _ _ _ => rfl) (absurd · hw) (fun _ _ _ => rfl) s t h)
  · intro hne
    by_contra hw
    exact hne (exec_closed closed_halted i (fun _ _ _ => rfl) (fun _ _ _ => rfl) (absurd · hw) s t h)

/-- Settles O8: `step` asks for `status` first, and of a faulted one answers its record. -/
theorem faultedStateHasNoNextState : Obligations.FaultedStateHasNoNextState := by
  intro s f hf
  refine ⟨step_of_faulted hf, fun t h => ?_⟩
  rw [step_of_faulted hf] at h
  cases h

/-- Settles O12: F is 0xB0, the bank is 1, and the arrays are empty. -/
theorem resetMeetsInvariant : Obligations.ResetMeetsInvariant := ⟨by decide, by decide, reset_arrays⟩

/-- Settles O17: the rows of R42 and of R8, each a field of the state construction leaves. -/
theorem resetTable : Obligations.ResetTable := by
  refine ⟨fun p => ⟨rfl, rfl, rfl, ?_, rfl, rfl, rfl, rfl, rfl, rfl, rfl, rfl, rfl, rfl, rfl, rfl, rfl⟩, rfl, rfl,
    ⟨rfl, rfl, rfl, rfl, rfl, rfl, ?_, rfl, rfl, fun _ => rfl⟩, fun _ => ⟨rfl, rfl, rfl⟩⟩
  · intro r hr
    cases r with
    | A => exact absurd rfl hr
    | _ => rfl
  · intro code
    change code ∈ [0x01, 0x02, 0x03] ↔ _
    simp
end

-- ====
section
/-! PROOFS. Registers and pairs as views of their fields (10_state.md R20 to R23). -/

namespace Sys2Proof.Machine

/-- The high byte of a word, as a number. -/
theorem highByte_eq (v : Word) : highByte v = BitVec.ofNat 8 (v.toNat / 256) := by
  apply BitVec.eq_of_toNat_eq
  have := v.isLt
  rw [highByte_toNat, BitVec.toNat_ofNat]
  omega

/-- The low byte of a word, as a number. -/
theorem lowByte_eq (v : Word) : lowByte v = BitVec.ofNat 8 v.toNat := by
  apply BitVec.eq_of_toNat_eq
  rw [lowByte_toNat, BitVec.toNat_ofNat]

/-- Masking the low nibble away rounds down to a multiple of 16 (10_state.md R21). -/
theorem toNat_and_high_nibble (v : Byte) : (v &&& 0xF0).toNat = v.toNat / 16 * 16 := by
  revert v
  decide

theorem getF_toNat (s : State) : (getF s).toNat = s.f.toNat / 16 * 16 := toNat_and_high_nibble s.f

/-- The byte that a write of `v` to AF leaves in F. -/
theorem lowByte_and_high_nibble (v : Word) : lowByte v &&& 0xF0 = BitVec.ofNat 8 (v.toNat / 16 * 16) := by
  apply BitVec.eq_of_toNat_eq
  rw [toNat_and_high_nibble, lowByte_toNat, BitVec.toNat_ofNat]
  omega

/-- A register reads what was last written to it, and a write of one register leaves the others (10_state.md R20). -/
theorem getReg_setReg (q r : Reg8) (b : Byte) (s : State) :
    getReg q (setReg r b s) = if q = r then b else getReg q s := by
  split_ifs with h
  · rw [h, getReg_setReg_self]
  · exact getReg_setReg_other h b s

end Sys2Proof.Machine

open Sys2Proof Sys2Proof.Machine

/-- Settles O30: a pair is `hi:lo`, and its halves are quotient and remainder by 256. -/
theorem registersAndPairs : Obligations.RegistersAndPairs := by
  intro s v b
  refine ⟨⟨?_, wordOfBytes_toNat _ _, wordOfBytes_toNat _ _, wordOfBytes_toNat _ _, rfl⟩, ⟨?_, ?_, ?_, ?_, rfl⟩,
    ⟨rfl, rfl, rfl, rfl, rfl, rfl, rfl⟩, ⟨rfl, rfl, rfl, rfl, rfl, rfl, rfl⟩, fun r q => getReg_setReg q r b s⟩
  · rw [getPair, wordOfBytes_toNat, getF_toNat]
  · rw [setPair, highByte_eq, lowByte_eq]
  · rw [setPair, highByte_eq, lowByte_eq]
  · rw [setPair, highByte_eq, lowByte_eq]
  · rw [setPair, setF, highByte_eq, lowByte_and_high_nibble]
end

-- ====
section
/-! PROOFS. Where an instruction stores, said once: from its start state to the state it leaves there are only updates
that leave every byte, the mapper and the serial buffers alone, and byte writes at the addresses `storesAt` lists
(`exec_storesWithin`). -/

namespace Sys2Proof.Machine

/-! ### Updates that store nothing -/

/-- The same memory, mapper, serial buffers and parameters. -/
structure SameStorage (s t : State) : Prop where
  wram : t.wram = s.wram
  hram : t.hram = s.hram
  ie : t.ie = s.ie
  cartRam : t.cartRam = s.cartRam
  romBank : t.romBank = s.romBank
  mapperMode : t.mapperMode = s.mapperMode
  serialLine : t.serialLine = s.serialLine
  serialOut : t.serialOut = s.serialOut
  params : t.params = s.params

theorem SameStorage.refl (s : State) : SameStorage s s := ⟨rfl, rfl, rfl, rfl, rfl, rfl, rfl, rfl, rfl⟩

theorem SameStorage.trans {s t u : State} (h1 : SameStorage s t) (h2 : SameStorage t u) : SameStorage s u where
  wram := h2.wram.trans h1.wram
  hram := h2.hram.trans h1.hram
  ie := h2.ie.trans h1.ie
  cartRam := h2.cartRam.trans h1.cartRam
  romBank := h2.romBank.trans h1.romBank
  mapperMode := h2.mapperMode.trans h1.mapperMode
  serialLine := h2.serialLine.trans h1.serialLine
  serialOut := h2.serialOut.trans h1.serialOut
  params := h2.params.trans h1.params

theorem sameStorage_setReg (r : Reg8) (v : Byte) (s : State) : SameStorage s (setReg r v s) := by constructor <;> simp

theorem sameStorage_setPair (rr : Reg16) (v : Word) (s : State) : SameStorage s (setPair rr v s) := by
  constructor <;> simp

theorem sameStorage_setFlags (z n h c : Bool) (s : State) : SameStorage s (setFlags z n h c s) := by constructor <;> simp

/-- SP, PC, IME and `halted` are no storage. -/
theorem sameStorage_control (sp pc : Word) (ime halted : Bool) (s : State) :
    SameStorage s { s with sp := sp, pc := pc, ime := ime, halted := halted } := by constructor <;> rfl

theorem sameStorage_enterFault (f : FaultRecord) (s : State) : SameStorage s (enterFault f s) := by constructor <;> simp

theorem sameStorage_afterRead (addr : Word) (s : State) : SameStorage s (afterRead addr s) := by constructor <;> simp

theorem sameStorage_accumulate (o : AluOp) (v : Byte) (s : State) : SameStorage s (accumulate o v s) := by
  cases o <;> (constructor <;> rfl)

/-- HALT and STOP write `halted` or nothing. -/
theorem haltOrNot_cases {s t : State} (h : haltOrNot s = .next t) : t = { s with halted := true } ∨ t = s := by
  unfold haltOrNot at h
  split at h <;> cases h
  · exact .inl rfl
  · exact .inr rfl

theorem haltOrNot_sameStorage {s t : State} (h : haltOrNot s = .next t) : SameStorage s t := by
  obtain rfl | rfl := haltOrNot_cases h
  · exact sameStorage_control _ _ _ _ s
  · exact .refl _

/-- Where nothing is stored every byte reads as before. -/
theorem SameStorage.storesNothing {s t : State} (h : SameStorage s t) : StoresNothing s t :=
  ⟨fun _ hy => readValue_congr_of_ne hy h.params h.romBank h.wram h.hram h.ie h.cartRam, h.romBank, h.mapperMode,
    h.serialLine, h.serialOut⟩

/-! ### Stores at listed addresses -/

/-- One update: nothing is stored, or one byte at an address of `A`. -/
def StoreStep (A : List Word) (s t : State) : Prop :=
  SameStorage s t ∨ ∃ x ∈ A, ∃ v, writeByte x v s = .done () t

/-- Any number of such updates. -/
abbrev StoresWithin (A : List Word) : State → State → Prop := Relation.ReflTransGen (StoreStep A)

theorem StoresWithin.same {A : List Word} {s t u : State} (h : StoresWithin A s t) (hu : SameStorage t u) :
    StoresWithin A s u :=
  h.tail (.inl hu)

theorem StoresWithin.write {A : List Word} {s t u : State} {x : Word} {v : Byte} (h : StoresWithin A s t) (hx : x ∈ A)
    (hw : writeByte x v t = .done () u) : StoresWithin A s u :=
  h.tail (.inr ⟨x, hx, v, hw⟩)

/-- Where no address is listed nothing is stored. -/
theorem StoresWithin.sameStorage {s t : State} (h : StoresWithin [] s t) : SameStorage s t := by
  induction h with
  | refl => exact .refl _
  | tail _ hstep ih =>
    obtain hsame | ⟨x, hx, _⟩ := hstep
    · exact ih.trans hsame
    · cases hx

/-! ### Parts of a step -/

/-- A get leaves everything but the draw counter. -/
theorem readLoc_done {l : Loc8} {v : Byte} {s t : State} (h : readLoc l s = .done v t) :
    t = { s with draws := t.draws } := by
  cases l with
  | reg r => cases h; rfl
  | _ => rw [(readByte_eq_done.1 h).2]; exact afterRead_eq _ s

theorem readSrc_done {src : Src8} {v : Byte} {s t : State} (h : readSrc src s = .done v t) :
    t = { s with draws := t.draws } := by
  cases src with
  | loc l => exact readLoc_done h
  | imm n => cases h; rfl

/-- The address of a location does not depend on the draw counter. -/
theorem locAddr_draws (l : Loc8) (n : Nat) (s : State) : locAddr l { s with draws := n } = locAddr l s := by
  cases l with
  | ind rr => cases rr <;> rfl
  | _ => rfl

section
variable {A : List Word} {s t : State}

theorem reaches_readByte (addr : Word) (h : StoresWithin A s t) : Reaches (StoresWithin A) s (readByte addr t) := by
  unfold readByte
  cases readValue addr t with
  | ok v => exact h.same (sameStorage_afterRead addr t)
  | error f => exact h

theorem reaches_writeByte {x : Word} (hx : x ∈ A) (v : Byte) (h : StoresWithin A s t) :
    Reaches (StoresWithin A) s (writeByte x v t) := by
  cases hw : writeByte x v t with
  | done _ u => exact h.write hx hw
  | raised f u => rw [(writeByte_raised hw).1]; exact h

theorem reaches_readLoc (l : Loc8) (h : StoresWithin A s t) : Reaches (StoresWithin A) s (readLoc l t) := by
  cases l with
  | reg r => exact h
  | _ => exact reaches_readByte _ h

theorem reaches_readSrc (src : Src8) (h : StoresWithin A s t) : Reaches (StoresWithin A) s (readSrc src t) := by
  cases src with
  | loc l => exact reaches_readLoc l h
  | imm n => exact h

/-- A put stores at the location's address, if it has one. -/
theorem reaches_writeLoc {l : Loc8} (hl : ∀ x, locAddr l t = some x → x ∈ A) (v : Byte) (h : StoresWithin A s t) :
    Reaches (StoresWithin A) s (writeLoc l v t) := by
  cases l with
  | reg r => exact h.same (sameStorage_setReg r v t)
  | _ => exact reaches_writeByte (hl _ rfl) v h

theorem reaches_readWord (addr : Word) (h : StoresWithin A s t) : Reaches (StoresWithin A) s (readWord addr t) :=
  (reaches_readByte addr h).andThen fun _ _ h1 => (reaches_readByte _ h1).andThen fun _ _ h2 => h2

theorem reaches_writeWord {x : Word} (hlo : x ∈ A) (hhi : x + 1 ∈ A) (v : Word) (h : StoresWithin A s t) :
    Reaches (StoresWithin A) s (writeWord x v t) :=
  (reaches_writeByte hlo _ h).andThen fun _ _ h1 => reaches_writeByte hhi _ h1

theorem reaches_pop16 (h : StoresWithin A s t) : Reaches (StoresWithin A) s (pop16 t) :=
  (reaches_readWord _ h).andThen fun _ u h1 => h1.same (sameStorage_control (u.sp + 2) _ _ _ u)

end

theorem reaches_push16 (v : Word) (s : State) : Reaches (StoresWithin [s.sp - 2, s.sp - 1]) s (push16 v s) :=
  have hsp : StoresWithin [s.sp - 2, s.sp - 1] s { s with sp := s.sp - 2 } :=
    .single (.inl (sameStorage_control (s.sp - 2) _ _ _ s))
  reaches_writeWord (by simp) (by rw [sp_sub_two_add_one]; simp) v hsp

/-- A source is read, and then a put to `l` stores where `l` lay in the start state. -/
theorem reaches_readSrc_then {A : List Word} {l : Loc8} {s : State} (src : Src8)
    (hl : ∀ x, locAddr l s = some x → x ∈ A) {k : Byte → State → Access Unit}
    (hk : ∀ v s1, StoresWithin A s s1 → (∀ x, locAddr l s1 = some x → x ∈ A) → Reaches (StoresWithin A) s (k v s1)) :
    Reaches (StoresWithin A) s ((readSrc src s).andThen k) := by
  have hread : Reaches (StoresWithin A) s (readSrc src s) := reaches_readSrc src .refl
  cases hr : readSrc src s with
  | raised f s1 => rw [hr] at hread; exact hread
  | done v s1 =>
    rw [hr] at hread
    refine hk v s1 hread fun x hx => hl x ?_
    rwa [readSrc_done hr, locAddr_draws] at hx

/-- An instruction with a condition, taken or not. -/
theorem storesWithin_of_taken {A : List Word} {s t : State} {taken : Bool} {r : Result}
    (h : (if taken then r else .next s) = .next t) (hr : r = .next t → StoresWithin A s t) : StoresWithin A s t := by
  split at h
  · exact hr h
  · cases h; exact .refl

theorem storesWithin_of_finish {A : List Word} {s t : State} {r : Access Unit} (h : finish r = .next t)
    (hr : Reaches (StoresWithin A) s r) : StoresWithin A s t := by
  cases r with
  | done _ u => cases h; exact hr
  | raised f u => cases h; exact StoresWithin.same hr (sameStorage_enterFault f u)

/-! ### The shared meanings -/

section
variable {A : List Word} {s t : State}

theorem load8_storesWithin {dst : Loc8} (hl : ∀ x, locAddr dst s = some x → x ∈ A) {src : Src8}
    (h : load8 dst src s = .next t) : StoresWithin A s t :=
  storesWithin_of_finish h (reaches_readSrc_then src hl fun v _ h1 hl1 => reaches_writeLoc hl1 v h1)

theorem load8_storesWithin_addr {dst : Loc8} {addr : Word} (hl : locAddr dst s = some addr) {src : Src8}
    (h : load8 dst src s = .next t) : StoresWithin [addr] s t :=
  load8_storesWithin (by simp [hl]) h

theorem inc8_storesWithin {l : Loc8} (hl : ∀ x, locAddr l s = some x → x ∈ A) (h : inc8 l s = .next t) :
    StoresWithin A s t :=
  storesWithin_of_finish h (reaches_readSrc_then (.loc l) hl fun _ _ h1 hl1 =>
    (reaches_writeLoc hl1 _ h1).andThen fun _ u h2 => h2.same (sameStorage_setFlags _ _ _ _ u))

theorem dec8_storesWithin {l : Loc8} (hl : ∀ x, locAddr l s = some x → x ∈ A) (h : dec8 l s = .next t) :
    StoresWithin A s t :=
  storesWithin_of_finish h (reaches_readSrc_then (.loc l) hl fun _ _ h1 hl1 =>
    (reaches_writeLoc hl1 _ h1).andThen fun _ u h2 => h2.same (sameStorage_setFlags _ _ _ _ u))

theorem rotate_storesWithin {k : RotOp} {l : Loc8} (hl : ∀ x, locAddr l s = some x → x ∈ A)
    (h : rotate k l s = .next t) : StoresWithin A s t :=
  storesWithin_of_finish h (reaches_readSrc_then (.loc l) hl fun _ _ h1 hl1 =>
    (reaches_writeLoc hl1 _ h1).andThen fun _ u h2 => h2.same (sameStorage_setFlags _ _ _ _ u))

theorem bitClear_storesWithin {b : Nat} {l : Loc8} (hl : ∀ x, locAddr l s = some x → x ∈ A)
    (h : bitClear b l s = .next t) : StoresWithin A s t :=
  storesWithin_of_finish h (reaches_readSrc_then (.loc l) hl fun _ _ h1 hl1 => reaches_writeLoc hl1 _ h1)

theorem bitSet_storesWithin {b : Nat} {l : Loc8} (hl : ∀ x, locAddr l s = some x → x ∈ A)
    (h : bitSet b l s = .next t) : StoresWithin A s t :=
  storesWithin_of_finish h (reaches_readSrc_then (.loc l) hl fun _ _ h1 hl1 => reaches_writeLoc hl1 _ h1)

theorem storeStepHL_storesWithin {step : Word} (h : storeStepHL step s = .next t) :
    StoresWithin [getPair .HL s] s t :=
  storesWithin_of_finish h ((reaches_writeByte (by simp) _ .refl).andThen fun _ u h1 =>
    h1.same (sameStorage_setPair .HL _ u))

theorem storeSP_storesWithin {addr : Word} (h : storeSP addr s = .next t) : StoresWithin [addr, addr + 1] s t :=
  storesWithin_of_finish h (reaches_writeWord (by simp) (by simp) _ .refl)

theorem pushPair_storesWithin {rr : Reg16} (h : pushPair rr s = .next t) :
    StoresWithin [s.sp - 2, s.sp - 1] s t :=
  storesWithin_of_finish h (reaches_push16 _ s)

theorem call_storesWithin {target : Word} (h : call target s = .next t) : StoresWithin [s.sp - 2, s.sp - 1] s t :=
  storesWithin_of_finish h ((reaches_push16 _ s).andThen fun _ _ h1 => h1.same (sameStorage_control _ _ _ _ _))

/-! ### The shared meanings that store nothing -/

theorem aluA_storesWithin {o : AluOp} {src : Src8} (h : aluA o src s = .next t) : StoresWithin A s t :=
  storesWithin_of_finish h ((reaches_readSrc src .refl).andThen fun v u h1 => h1.same (sameStorage_accumulate o v u))

theorem bitTest_storesWithin {b : Nat} {l : Loc8} (h : bitTest b l s = .next t) : StoresWithin A s t :=
  storesWithin_of_finish h ((reaches_readLoc l .refl).andThen fun _ u h1 => h1.same (sameStorage_setFlags _ _ _ _ u))

theorem loadStepHL_storesWithin {step : Word} (h : loadStepHL step s = .next t) : StoresWithin A s t :=
  storesWithin_of_finish h ((reaches_readByte _ .refl).andThen fun v u h1 =>
    (h1.same (sameStorage_setReg .A v u)).same (sameStorage_setPair .HL _ _))

theorem popPair_storesWithin {rr : Reg16} (h : popPair rr s = .next t) : StoresWithin A s t :=
  storesWithin_of_finish h ((reaches_pop16 .refl).andThen fun v u h1 => h1.same (sameStorage_setPair rr v u))

theorem ret_storesWithin (h : ret s = .next t) : StoresWithin A s t :=
  storesWithin_of_finish h ((reaches_pop16 .refl).andThen fun _ _ h1 => h1.same (sameStorage_control _ _ _ _ _))

theorem retEnable_storesWithin (h : retEnable s = .next t) : StoresWithin A s t :=
  storesWithin_of_finish h ((reaches_pop16 .refl).andThen fun _ _ h1 => h1.same (sameStorage_control _ _ _ _ _))

end

/-! ### Where the families store -/

@[simp] theorem storesAt_inc (x : Target) (s : State) : storesAt (.inc x) s = (locAddr (targetLoc x) s).toList := by
  rcases x with r | _
  · cases r <;> rfl
  · rfl

@[simp] theorem storesAt_dec (x : Target) (s : State) : storesAt (.dec x) s = (locAddr (targetLoc x) s).toList := by
  rcases x with r | _
  · cases r <;> rfl
  · rfl

@[simp] theorem storesAt_rot (k : RotOp) (x : Target) (s : State) :
    storesAt (.rot k x) s = (locAddr (targetLoc x) s).toList := by
  rcases x with r | _
  · cases k <;> cases r <;> rfl
  · cases k <;> rfl

@[simp] theorem storesAt_res (y : Bit3) (x : Target) (s : State) :
    storesAt (.res y x) s = (locAddr (targetLoc x) s).toList := by
  rcases x with r | _
  · cases y <;> cases r <;> rfl
  · cases y <;> rfl

@[simp] theorem storesAt_set (y : Bit3) (x : Target) (s : State) :
    storesAt (.set y x) s = (locAddr (targetLoc x) s).toList := by
  rcases x with r | _
  · cases y <;> cases r <;> rfl
  · cases y <;> rfl

/-! ### Every instruction -/

/-- Whatever an instruction answers, it stores at the addresses of `storesAt` alone, computed in its start state. -/
theorem exec_storesWithin (i : Instr) : ∀ s t, exec i s = .next t → StoresWithin (storesAt i s) s t := by
  revert i
  apply Instr.forall_by_family
  case h_ldRegReg => intro d r s t h; rw [exec_ldRegReg] at h; exact load8_storesWithin (by simp [locAddr]) h
  case h_ldRegMem => intro d s t h; rw [exec_ldRegMem] at h; exact load8_storesWithin (by simp [locAddr]) h
  case h_ldRegImm => intro d n s t h; rw [exec_ldRegImm] at h; exact load8_storesWithin (by simp [locAddr]) h
  case h_ldMemReg => 
    intro r s t h
    rw [exec_ldMemReg] at h
    rw [storesAt_ldMemReg]
    exact load8_storesWithin_addr rfl h
  case h_ld_A_mBC | h_ld_A_mDE | h_ld_A_mC => intro s t h; exact load8_storesWithin (by simp [locAddr]) h
  case h_ldh_A_ma8 | h_ld_A_ma16 => intro n s t h; exact load8_storesWithin (by simp [locAddr]) h
  case h_ld_mBC_A | h_ld_mDE_A | h_ld_mC_A => intro s t h; exact load8_storesWithin_addr rfl h
  case h_ld_mHL_d8 | h_ldh_ma8_A | h_ld_ma16_A => intro n s t h; exact load8_storesWithin_addr rfl h
  case h_ld_mHLi_A | h_ld_mHLd_A => intro s t h; exact storeStepHL_storesWithin h
  case h_ld_A_mHLi | h_ld_A_mHLd => intro s t h; exact loadStepHL_storesWithin h
  case h_ldPairImm =>
    intro p n s t h; rw [exec_ldPairImm] at h; cases h; exact .single (.inl (sameStorage_setPair _ _ s))
  case h_incPair => intro p s t h; rw [exec_incPair] at h; cases h; exact .single (.inl (sameStorage_setPair _ _ s))
  case h_decPair => intro p s t h; rw [exec_decPair] at h; cases h; exact .single (.inl (sameStorage_setPair _ _ s))
  case h_addHL =>
    intro p s t h
    rw [exec_addHL] at h
    cases h
    exact .single (.inl ((sameStorage_setFlags _ _ _ _ s).trans (sameStorage_setPair .HL _ _)))
  case h_ld_HL_SPe8 =>
    intro e s t h
    cases h
    exact .single (.inl ((sameStorage_setFlags _ _ _ _ s).trans (sameStorage_setPair .HL _ _)))
  case h_add_SP_e8 =>
    intro e s t h
    cases h
    exact .single (.inl ((sameStorage_setFlags _ _ _ _ s).trans (sameStorage_control _ _ _ _ _)))
  case h_ld_ma16_SP => intro a s t h; exact storeSP_storesWithin h
  case h_push => intro q s t h; rw [exec_push] at h; rw [storesAt_push]; exact pushPair_storesWithin h
  case h_pop => intro q s t h; rw [exec_pop] at h; exact popPair_storesWithin h
  case h_alu => intro o x s t h; rw [exec_alu] at h; exact aluA_storesWithin h
  case h_aluImm => intro o n s t h; rw [exec_aluImm] at h; exact aluA_storesWithin h
  case h_inc => intro x s t h; rw [exec_inc] at h; exact inc8_storesWithin (by simp) h
  case h_dec => intro x s t h; rw [exec_dec] at h; exact dec8_storesWithin (by simp) h
  case h_rot => intro k x s t h; rw [exec_rot] at h; exact rotate_storesWithin (by simp) h
  case h_res => intro y x s t h; rw [exec_res] at h; exact bitClear_storesWithin (by simp) h
  case h_set => intro y x s t h; rw [exec_set] at h; exact bitSet_storesWithin (by simp) h
  case h_bit => intro y x s t h; rw [exec_bit] at h; exact bitTest_storesWithin h
  case h_call_a16 => intro a s t h; exact call_storesWithin h
  case h_callCond =>
    intro cc a s t h
    rw [exec_callCond] at h
    rw [storesAt_callCond]
    exact storesWithin_of_taken h call_storesWithin
  case h_rst => intro y s t h; rw [exec_rst] at h; rw [storesAt_rst]; exact call_storesWithin h
  case h_ret => intro s t h; exact ret_storesWithin h
  case h_retCond => intro cc s t h; rw [exec_retCond] at h; exact storesWithin_of_taken h ret_storesWithin
  case h_reti => intro s t h; exact retEnable_storesWithin h
  case h_jpCond =>
    intro cc a s t h
    rw [exec_jpCond] at h
    exact storesWithin_of_taken h fun h => by cases h; exact .single (.inl (sameStorage_control _ _ _ _ s))
  case h_jrCond =>
    intro cc e s t h
    rw [exec_jrCond] at h
    exact storesWithin_of_taken h fun h => by cases h; exact .single (.inl (sameStorage_control _ _ _ _ s))
  case h_jp_a16 | h_jr_e8 => intro a s t h; cases h; exact .single (.inl (sameStorage_control _ _ _ _ s))
  case h_jp_HL | h_ld_SP_HL | h_di | h_ei =>
    intro s t h; cases h; exact .single (.inl (sameStorage_control _ _ _ _ s))
  case h_halt =>
    intro s t h
    exact .single (.inl (haltOrNot_sameStorage h))
  case h_stop =>
    intro b s t h
    exact .single (.inl (haltOrNot_sameStorage h))
  case h_rlca | h_rla | h_rrca | h_rra | h_daa | h_cpl =>
    intro s t h
    cases h
    exact .single (.inl ((sameStorage_setReg .A _ s).trans (sameStorage_setFlags _ _ _ _ _)))
  case h_scf | h_ccf => intro s t h; cases h; exact .single (.inl (sameStorage_setFlags _ _ _ _ s))
  case h_nop => intro s t h; cases h; exact .refl
  case h_illegal => intro op s t h; cases h; exact .single (.inl (sameStorage_enterFault _ s))

/-- An instruction that lists no address stores nothing. -/
theorem exec_storesNothing {i : Instr} {s t : State} (hi : storesAt i s = []) (h : exec i s = .next t) :
    StoresNothing s t := by
  have hw := exec_storesWithin i s t h
  rw [hi] at hw
  exact hw.sameStorage.storesNothing

/-! ### The mapper -/

/-- Byte writes outside the control range of the bank keep it (20_memory.md R74, R76). -/
theorem StoresWithin.romBank {A : List Word} {s t : State} (h : StoresWithin A s t) (hne : t.romBank ≠ s.romBank) :
    ∃ x ∈ A, 0x2000 ≤ x.toNat ∧ x.toNat ≤ 0x3FFF := by
  induction h with
  | refl => exact absurd rfl hne
  | tail _ hstep ih =>
    obtain hsame | ⟨x, hx, v, hw⟩ := hstep
    · exact ih (hsame.romBank ▸ hne)
    · obtain hkeep | ⟨hrange, _⟩ := (writeByte_mapper hw).1
      · exact ih (hkeep ▸ hne)
      · exact ⟨x, hx, hrange⟩

/-- Byte writes outside the control range of the mode keep it (20_memory.md R75, R76). -/
theorem StoresWithin.mapperMode {A : List Word} {s t : State} (h : StoresWithin A s t)
    (hne : t.mapperMode ≠ s.mapperMode) : ∃ x ∈ A, 0x6000 ≤ x.toNat ∧ x.toNat ≤ 0x7FFF := by
  induction h with
  | refl => exact absurd rfl hne
  | tail _ hstep ih =>
    obtain hsame | ⟨x, hx, v, hw⟩ := hstep
    · exact ih (hsame.mapperMode ▸ hne)
    · obtain hkeep | hrange := (writeByte_mapper hw).2
      · exact ih (hkeep ▸ hne)
      · exact ⟨x, hx, hrange⟩

end Sys2Proof.Machine

open Sys2Proof Sys2Proof.Machine

/-- Settles O59: an instruction changes storage by byte writes at the addresses of `storesAt` alone. -/
theorem onlyControlWritesChangeMapper : Obligations.OnlyControlWritesChangeMapper := by
  refine ⟨fun x v s t hw => ⟨fun hne => ?_, fun hne => (writeByte_mapper hw).2.resolve_left hne⟩, fun i s t h =>
    ⟨fun hne => ⟨(exec_bank h).resolve_left hne, (exec_storesWithin i s t h).romBank hne⟩,
      (exec_storesWithin i s t h).mapperMode⟩⟩
  exact ((writeByte_mapper hw).1.resolve_left hne).1
end

-- ====
section
/-! PROOFS. No rule reads IME, the mapper's mode or the serial buffers (10_state.md R32, R41, 20_memory.md R77): every
part of a step, started with them forgotten, answers the same but for them (`Blind`). -/

namespace Sys2Proof.Machine

/-! ### Forgetting what no rule reads -/

/-- An answer with what no rule reads forgotten in the state it leaves. -/
def Access.forget {α : Type} (r : Access α) : Access α :=
  match r with
  | .done v s => .done v (forgetUnread s)
  | .raised f s => .raised f (forgetUnread s)

/-- An outcome with what no rule reads forgotten in the next state. -/
def forgetNext (r : Result) : Result :=
  match r with
  | .next s => .next (forgetUnread s)
  | .fault r => .fault r
  | .refused r => .refused r

/-- An update that answers the same, but for what no rule reads, when that is forgotten before it. -/
def BlindUpdate (f : State → State) : Prop := ∀ s, forgetUnread (f (forgetUnread s)) = forgetUnread (f s)

/-- Such a part of a step. -/
def Blind {α : Type} (k : State → Access α) : Prop := ∀ s, (k (forgetUnread s)).forget = (k s).forget

/-- Such a meaning. -/
def BlindMeaning (m : State → Result) : Prop := ∀ s, forgetNext (m (forgetUnread s)) = forgetNext (m s)

/-! ### What is read -/

theorem getPair_forgetUnread (rr : Reg16) (s : State) : getPair rr (forgetUnread s) = getPair rr s := by cases rr <;> rfl

theorem condition_forgetUnread (cc : Cond) (s : State) : condition cc (forgetUnread s) = condition cc s := by
  cases cc <;> rfl

theorem readValue_forgetUnread (addr : Word) (s : State) : readValue addr (forgetUnread s) = readValue addr s :=
  readValue_congr addr rfl rfl rfl rfl rfl rfl rfl

/-! ### The updates -/

theorem blindUpdate_setReg (r : Reg8) (v : Byte) : BlindUpdate (setReg r v) := fun _ => by cases r <;> rfl

theorem blindUpdate_setPair (rr : Reg16) (v : Word) : BlindUpdate (setPair rr v) := fun _ => by cases rr <;> rfl

theorem blindUpdate_accumulate (o : AluOp) (v : Byte) : BlindUpdate (accumulate o v) := fun _ => by cases o <;> rfl

theorem blindUpdate_afterRead (addr : Word) : BlindUpdate (afterRead addr) := fun _ => by
  unfold afterRead
  split <;> rfl

theorem blindUpdate_serialPut (v : Byte) : BlindUpdate (serialPut v) := fun _ => by
  unfold serialPut
  split <;> rfl

/-! ### Parts of a step -/

theorem BlindUpdate.done {f : State → State} (hf : BlindUpdate f) : Blind fun s => .done () (f s) := fun s =>
  congrArg (Access.done ()) (hf s)

/-- What follows a part of a step does not tell whether what no rule reads was forgotten. -/
theorem forget_andThen {α β : Type} {k : α → State → Access β} (hk : ∀ v, Blind (k v)) (r : Access α) :
    (r.forget.andThen k).forget = (r.andThen k).forget := by
  cases r with
  | done v s => exact hk v s
  | raised f s => rfl

/-- Two parts of a step in sequence; the second may read in the start state what a rule may read. -/
theorem Blind.andThen_reading {α β : Type} {r : State → Access α} {k : State → α → State → Access β} (hr : Blind r)
    (hread : ∀ s, k (forgetUnread s) = k s) (hk : ∀ s v, Blind (k s v)) : Blind fun s => (r s).andThen (k s) := fun s => by
  simp only [hread]
  rw [← forget_andThen (hk s) (r (forgetUnread s)), hr, forget_andThen (hk s)]

theorem Blind.andThen {α β : Type} {r : State → Access α} {k : α → State → Access β} (hr : Blind r)
    (hk : ∀ v, Blind (k v)) : Blind fun s => (r s).andThen k :=
  hr.andThen_reading (k := fun _ => k) (fun _ => rfl) fun _ => hk

theorem Blind.finish {r : State → Access Unit} (hr : Blind r) : BlindMeaning fun s => finish (r s) := by
  have hfinish : ∀ r : Access Unit, forgetNext (Machine.finish r) = Machine.finish r.forget := by
    intro r
    cases r <;> rfl
  intro s
  rw [hfinish, hr, hfinish]

theorem blind_readByte (addr : Word) : Blind (readByte addr) := fun s => by
  unfold readByte
  rw [readValue_forgetUnread]
  cases readValue addr s with
  | ok v => exact congrArg (Access.done v) (blindUpdate_afterRead addr s)
  | error f => rfl

theorem blind_mapperWrite (addr : Word) (v : Byte) : Blind (mapperWrite addr v) := fun s => by
  unfold mapperWrite
  split
  · rfl
  · split <;> rfl

theorem blind_writeByte (addr : Word) (v : Byte) : Blind (writeByte addr v) := fun s => by
  unfold writeByte
  cases region addr with
  | serial => exact (blindUpdate_serialPut v).done s
  | cartRam => cases hmode : s.params.cartRamMode <;> simp only [forgetUnread, hmode] <;> rfl
  | romBank => exact blind_mapperWrite addr v s
  | romFixed => exact blind_mapperWrite addr v s
  | _ => rfl

theorem blind_readLoc (l : Loc8) : Blind (readLoc l) := fun s => by
  cases l with
  | reg r => cases r <;> rfl
  | ind rr => simp only [readLoc, getPair_forgetUnread]; exact blind_readByte _ s
  | _ => exact blind_readByte _ s

theorem blind_readSrc (src : Src8) : Blind (readSrc src) := by
  cases src with
  | loc l => exact blind_readLoc l
  | imm n => exact fun _ => rfl

theorem blind_writeLoc (l : Loc8) (v : Byte) : Blind (writeLoc l v) := fun s => by
  cases l with
  | reg r => exact (blindUpdate_setReg r v).done s
  | ind rr => simp only [writeLoc, getPair_forgetUnread]; exact blind_writeByte _ v s
  | _ => exact blind_writeByte _ v s

theorem blind_readWord (addr : Word) : Blind (readWord addr) :=
  (blind_readByte addr).andThen fun _ => (blind_readByte _).andThen fun _ _ => rfl

theorem blind_writeWord (addr v : Word) : Blind (writeWord addr v) :=
  (blind_writeByte addr _).andThen fun _ => blind_writeByte _ _

theorem blind_push16 (v : Word) : Blind (push16 v) := fun s => blind_writeWord (s.sp - 2) v { s with sp := s.sp - 2 }

theorem blind_pop16 : Blind pop16 := fun s =>
  ((blind_readWord s.sp).andThen fun _ _ => rfl :
    Blind fun u => (readWord s.sp u).andThen fun v s1 => .done v { s1 with sp := s1.sp + 2 }) s

/-! ### The shared meanings -/

theorem BlindUpdate.next {f : State → State} (hf : BlindUpdate f) : BlindMeaning fun s => .next (f s) := fun s =>
  congrArg Host.Outcome.next (hf s)

/-- An instruction with a condition, taken or not. -/
theorem BlindMeaning.taken {m : State → Result} (hm : BlindMeaning m) (cc : Cond) :
    BlindMeaning fun s => if condition cc s then m s else .next s := fun s => by
  simp only [condition_forgetUnread]
  split
  · exact hm s
  · rfl

theorem blind_load8 (dst : Loc8) (src : Src8) : BlindMeaning (load8 dst src) :=
  ((blind_readSrc src).andThen fun v => blind_writeLoc dst v).finish

theorem blind_storeStepHL (step : Word) : BlindMeaning (storeStepHL step) := fun s =>
  ((blind_writeByte (getPair .HL s) s.a).andThen fun _ _ => rfl :
    Blind fun u => (writeByte (getPair .HL s) s.a u).andThen fun _ s1 =>
      .done () (setPair .HL (getPair .HL s1 + step) s1)).finish s

theorem blind_loadStepHL (step : Word) : BlindMeaning (loadStepHL step) := fun s =>
  ((blind_readByte (getPair .HL s)).andThen fun _ _ => rfl :
    Blind fun u => (readByte (getPair .HL s) u).andThen fun v s1 =>
      .done () (setPair .HL (getPair .HL s1 + step) { s1 with a := v })).finish s

theorem blind_aluA (o : AluOp) (src : Src8) : BlindMeaning (aluA o src) :=
  ((blind_readSrc src).andThen fun v => (blindUpdate_accumulate o v).done).finish

theorem blind_inc8 (l : Loc8) : BlindMeaning (inc8 l) :=
  ((blind_readLoc l).andThen fun _ => (blind_writeLoc l _).andThen fun _ _ => rfl).finish

theorem blind_dec8 (l : Loc8) : BlindMeaning (dec8 l) :=
  ((blind_readLoc l).andThen fun _ => (blind_writeLoc l _).andThen fun _ _ => rfl).finish

theorem blind_rotate (k : RotOp) (l : Loc8) : BlindMeaning (rotate k l) :=
  ((blind_readLoc l).andThen fun v s =>
    ((blind_writeLoc l (rotResult k v (flagC s))).andThen fun _ _ => rfl :
      Blind fun u => (writeLoc l (rotResult k v (flagC s)) u).andThen fun _ s2 =>
        .done () (setFlags (rotResult k v (flagC s) == 0) false false (rotCarry k v) s2)) s).finish

theorem blind_bitTest (b : Nat) (l : Loc8) : BlindMeaning (bitTest b l) :=
  ((blind_readLoc l).andThen fun _ _ => rfl).finish

theorem blind_bitClear (b : Nat) (l : Loc8) : BlindMeaning (bitClear b l) :=
  ((blind_readLoc l).andThen fun _ => blind_writeLoc l _).finish

theorem blind_bitSet (b : Nat) (l : Loc8) : BlindMeaning (bitSet b l) :=
  ((blind_readLoc l).andThen fun _ => blind_writeLoc l _).finish

theorem blind_storeSP (addr : Word) : BlindMeaning (storeSP addr) := fun s => (blind_writeWord addr s.sp).finish s

theorem blind_pushPair (rr : Reg16) : BlindMeaning (pushPair rr) := fun s => by
  simp only [pushPair, getPair_forgetUnread]
  exact (blind_push16 _).finish s

theorem blind_popPair (rr : Reg16) : BlindMeaning (popPair rr) :=
  (blind_pop16.andThen fun v => (blindUpdate_setPair rr v).done).finish

theorem blind_call (target : Word) : BlindMeaning (call target) := fun s =>
  ((blind_push16 s.pc).andThen fun _ _ => rfl :
    Blind fun u => (push16 s.pc u).andThen fun _ s1 => .done () { s1 with pc := target }).finish s

theorem blind_ret : BlindMeaning ret := (blind_pop16.andThen fun _ _ => rfl).finish

theorem blind_retEnable : BlindMeaning retEnable := (blind_pop16.andThen fun _ _ => rfl).finish

theorem blind_stepPair (rr : Reg16) (step : Word) : BlindMeaning (stepPair rr step) := fun s => by
  simp only [stepPair, getPair_forgetUnread]
  exact (blindUpdate_setPair rr _).next s

theorem blind_addPairHL (rr : Reg16) : BlindMeaning (addPairHL rr) := fun s => by
  simp only [addPairHL, getPair_forgetUnread]
  rfl

theorem blind_haltOrNot : BlindMeaning haltOrNot := fun s => by
  unfold haltOrNot
  cases hmode : s.params.haltMode <;> simp only [forgetUnread, hmode] <;> rfl

/-! ### Every instruction and every step -/

/-- No instruction reads IME, the mapper's mode or the serial buffers. -/
theorem blind_exec (i : Instr) : BlindMeaning (exec i) := by
  revert i
  apply Instr.forall_by_family
  case h_ldRegReg => intro d r s; simp only [exec_ldRegReg]; exact blind_load8 _ _ s
  case h_ldRegMem => intro d s; simp only [exec_ldRegMem]; exact blind_load8 _ _ s
  case h_ldMemReg => intro r s; simp only [exec_ldMemReg]; exact blind_load8 _ _ s
  case h_ldRegImm => intro d n s; simp only [exec_ldRegImm]; exact blind_load8 _ _ s
  case h_ld_A_mBC | h_ld_A_mDE | h_ld_A_mC | h_ld_mBC_A | h_ld_mDE_A | h_ld_mC_A => exact blind_load8 _ _
  case h_ldh_A_ma8 | h_ld_A_ma16 | h_ld_mHL_d8 | h_ldh_ma8_A | h_ld_ma16_A => intro n; exact blind_load8 _ _
  case h_ld_mHLi_A | h_ld_mHLd_A => exact blind_storeStepHL _
  case h_ld_A_mHLi | h_ld_A_mHLd => exact blind_loadStepHL _
  case h_alu => intro o x s; simp only [exec_alu]; exact blind_aluA _ _ s
  case h_aluImm => intro o n s; simp only [exec_aluImm]; exact blind_aluA _ _ s
  case h_inc => intro x s; simp only [exec_inc]; exact blind_inc8 _ s
  case h_dec => intro x s; simp only [exec_dec]; exact blind_dec8 _ s
  case h_rot => intro k x s; simp only [exec_rot]; exact blind_rotate _ _ s
  case h_bit => intro y x s; simp only [exec_bit]; exact blind_bitTest _ _ s
  case h_res => intro y x s; simp only [exec_res]; exact blind_bitClear _ _ s
  case h_set => intro y x s; simp only [exec_set]; exact blind_bitSet _ _ s
  case h_ldPairImm => intro p n s; simp only [exec_ldPairImm]; exact (blindUpdate_setPair _ _).next s
  case h_incPair => intro p s; simp only [exec_incPair]; exact blind_stepPair _ _ s
  case h_decPair => intro p s; simp only [exec_decPair]; exact blind_stepPair _ _ s
  case h_addHL => intro p s; simp only [exec_addHL]; exact blind_addPairHL _ s
  case h_ld_ma16_SP => intro a; exact blind_storeSP a
  case h_push => intro q s; simp only [exec_push]; exact blind_pushPair _ s
  case h_pop => intro q s; simp only [exec_pop]; exact blind_popPair _ s
  case h_jpCond =>
    intro cc a s
    simp only [exec_jpCond]
    exact BlindMeaning.taken (fun _ => rfl) cc s
  case h_jrCond =>
    intro cc e s
    simp only [exec_jrCond]
    exact BlindMeaning.taken (m := jumpRel e) (fun _ => rfl) cc s
  case h_callCond => intro cc a s; simp only [exec_callCond]; exact (blind_call a).taken cc s
  case h_retCond => intro cc s; simp only [exec_retCond]; exact blind_ret.taken cc s
  case h_rst => intro y s; simp only [exec_rst]; exact blind_call _ s
  case h_call_a16 => intro a; exact blind_call a
  case h_ret => exact blind_ret
  case h_reti => exact blind_retEnable
  case h_halt => exact blind_haltOrNot
  case h_stop => intro b; exact blind_haltOrNot
  case h_add_SP_e8 | h_ld_HL_SPe8 | h_jp_a16 | h_jr_e8 | h_illegal => intro n s; rfl
  case h_nop | h_rlca | h_rla | h_rrca | h_rra | h_daa | h_cpl | h_scf | h_ccf | h_jp_HL | h_ld_SP_HL | h_di | h_ei =>
    intro s; rfl

/-- Nor does Decode: what it asks of the parameters is the same before and after. -/
theorem blind_decodeAt (addr : Word) : Blind (decodeAt addr) := by
  refine (blind_readByte addr).andThen_reading (fun _ => rfl) fun s op => ?_
  split
  · exact fun _ => rfl
  · cases primaryEntry op with
    | op i => exact fun _ => rfl
    | imm8 f => exact (blind_readByte _).andThen fun _ _ => rfl
    | imm16 f => exact (blind_readByte _).andThen fun _ => (blind_readByte _).andThen fun _ _ => rfl
    | cbTable => exact (blind_readByte _).andThen fun _ _ => rfl
    | illegal => exact fun _ => rfl

theorem forgetNext_afterFetch (r : Access Fetched) : forgetNext (afterFetch r.forget) = forgetNext (afterFetch r) := by
  cases r with
  | done d s => exact blind_exec d.instr (advance d.len s)
  | raised f s => rfl

/-- Nor does a step. -/
theorem blind_step : BlindMeaning step := by
  intro s
  cases hstatus : s.status with
  | faulted f => rw [step_of_faulted hstatus, step_of_faulted (s := forgetUnread s) hstatus]
  | running =>
    cases hhalt : s.halted with
    | true => rw [step_of_halted hstatus hhalt, step_of_halted (s := forgetUnread s) hstatus hhalt]; rfl
    | false =>
      have hfetch : (fetch (forgetUnread s)).forget = (fetch s).forget := blind_decodeAt s.pc s
      rw [step_of_running hstatus hhalt, step_of_running (s := forgetUnread s) hstatus hhalt, ← forgetNext_afterFetch,
        hfetch, forgetNext_afterFetch]

theorem forgetNext_eq_next {r : Result} {u : State} (h : forgetNext r = .next u) :
    ∃ t, r = .next t ∧ forgetUnread t = u := by
  cases r with
  | next t => exact ⟨t, rfl, Host.Outcome.next.inj h⟩
  | fault r => cases h
  | refused r => cases h

end Sys2Proof.Machine

open Sys2Proof Sys2Proof.Machine

/-- Settles O14: a step answers the same, but for what no rule reads, from two states that agree on the rest, since it
does so from the state both become when that is forgotten. -/
theorem unreadStateIsNeverRead : Obligations.UnreadStateIsNeverRead := by
  intro s s' t hagree hstep
  apply forgetNext_eq_next
  calc forgetNext (step s') = forgetNext (step (forgetUnread s)) := by rw [hagree, blind_step]
    _ = forgetNext (step s) := blind_step s
    _ = .next (forgetUnread t) := by rw [hstep]; rfl
end

-- ====
section
/-! PROOFS. The frame of the forms that touch no memory (10_state.md R30): what each leaves alone besides memory
(`KeepsRest`), update by update; that it stores nothing is `exec_storesNothing`. -/

namespace Sys2Proof.Machine

/-! ### The updates and what they leave alone -/

theorem KeepsRest.refl (w : MayWrite) (s : State) : KeepsRest w s s :=
  ⟨fun _ _ => rfl, rfl, fun _ => rfl, fun _ => rfl, fun _ => rfl, fun _ => rfl, rfl, rfl⟩

theorem KeepsRest.trans {w : MayWrite} {s t u : State} (h1 : KeepsRest w s t) (h2 : KeepsRest w t u) :
    KeepsRest w s u := by
  obtain ⟨hreg1, hf1, hsp1, hpc1, hime1, hhalt1, hstatus1, hp1⟩ := h1
  obtain ⟨hreg2, hf2, hsp2, hpc2, hime2, hhalt2, hstatus2, hp2⟩ := h2
  exact ⟨fun r hr => (hreg2 r hr).trans (hreg1 r hr), hf2.trans hf1, fun h => (hsp2 h).trans (hsp1 h),
    fun h => (hpc2 h).trans (hpc1 h), fun h => (hime2 h).trans (hime1 h), fun h => (hhalt2 h).trans (hhalt1 h),
    hstatus2.trans hstatus1, hp2.trans hp1⟩

section
variable {w : MayWrite}

theorem keepsRest_setReg {r : Reg8} (hr : r ∈ w.regs) (v : Byte) (s : State) : KeepsRest w s (setReg r v s) := by
  refine ⟨fun q hq => getReg_setReg_other (by rintro rfl; exact hq hr) v s, ?_, ?_, ?_, ?_, ?_, ?_, ?_⟩ <;> simp [getF]

theorem keepsRest_pc (hpc : w.pc = true) (v : Word) (s : State) : KeepsRest w s { s with pc := v } :=
  ⟨fun r _ => by cases r <;> rfl, rfl, fun _ => rfl, fun h => absurd (hpc.symm.trans h) (by decide), fun _ => rfl,
    fun _ => rfl, rfl, rfl⟩

theorem keepsRest_sp (hsp : w.sp = true) (v : Word) (s : State) : KeepsRest w s { s with sp := v } :=
  ⟨fun r _ => by cases r <;> rfl, rfl, fun h => absurd (hsp.symm.trans h) (by decide), fun _ => rfl, fun _ => rfl,
    fun _ => rfl, rfl, rfl⟩

theorem keepsRest_ime (hime : w.ime = true) (b : Bool) (s : State) : KeepsRest w s { s with ime := b } :=
  ⟨fun r _ => by cases r <;> rfl, rfl, fun _ => rfl, fun _ => rfl, fun h => absurd (hime.symm.trans h) (by decide),
    fun _ => rfl, rfl, rfl⟩

theorem keepsRest_halted (hhalt : w.halted = true) (b : Bool) (s : State) : KeepsRest w s { s with halted := b } :=
  ⟨fun r _ => by cases r <;> rfl, rfl, fun _ => rfl, fun _ => rfl, fun _ => rfl,
    fun h => absurd (hhalt.symm.trans h) (by decide), rfl, rfl⟩

/-- Two register writes, which is what a write to a pair is. -/
theorem keepsRest_halves {hi lo : Reg8} (hhi : hi ∈ w.regs) (hlo : lo ∈ w.regs) (x y : Byte) (s : State) :
    KeepsRest w s (setReg lo y (setReg hi x s)) :=
  (keepsRest_setReg hhi x s).trans (keepsRest_setReg hlo y _)

end

/-! ### The flags -/

/-- Bit 7 of F is Z, bit 6 N, bit 5 H and bit 4 C (10_state.md R21). -/
theorem flagByte_getLsbD (z n h c : Bool) :
    (flagByte z n h c).getLsbD 7 = z ∧ (flagByte z n h c).getLsbD 6 = n ∧ (flagByte z n h c).getLsbD 5 = h ∧
      (flagByte z n h c).getLsbD 4 = c := by
  revert z n h c
  decide

theorem bit_agrees {x y m keep inside : Bool} (h : m = true ∨ x = y) :
    (x && keep && (inside && !m)) = (y && keep && (inside && !m)) := by
  rcases h with rfl | rfl
  · simp
  · rfl

/-- Two flag registers agree outside a mask when each flag is in the mask or the same. -/
theorem flagByte_agrees {f m : Byte} {z n h c : Bool} (hz : m.getLsbD 7 = true ∨ z = f.getLsbD 7)
    (hn : m.getLsbD 6 = true ∨ n = f.getLsbD 6) (hh : m.getLsbD 5 = true ∨ h = f.getLsbD 5)
    (hc : m.getLsbD 4 = true ∨ c = f.getLsbD 4) :
    (flagByte z n h c &&& 0xF0) &&& ~~~m = (f &&& 0xF0) &&& ~~~m := by
  obtain ⟨h7, h6, h5, h4⟩ := flagByte_getLsbD z n h c
  apply BitVec.eq_of_getLsbD_eq
  intro i hi
  rw [BitVec.getLsbD_and, BitVec.getLsbD_and, BitVec.getLsbD_and, BitVec.getLsbD_and, BitVec.getLsbD_not]
  interval_cases i
  · simp
  · simp
  · simp
  · simp
  · rw [h4]; exact bit_agrees hc
  · rw [h5]; exact bit_agrees hh
  · rw [h6]; exact bit_agrees hn
  · rw [h7]; exact bit_agrees hz

/-- A write of the flags keeps each flag that is outside the mask. -/
theorem keepsRest_setFlags {w : MayWrite} (m : Byte) (hw : w.flags = m) {s : State} {z n h c : Bool}
    (hz : m.getLsbD 7 = true ∨ z = flagZ s) (hn : m.getLsbD 6 = true ∨ n = flagN s)
    (hh : m.getLsbD 5 = true ∨ h = flagH s) (hc : m.getLsbD 4 = true ∨ c = flagC s) :
    KeepsRest w s (setFlags z n h c s) := by
  subst hw
  exact ⟨fun r _ => by cases r <;> rfl, flagByte_agrees hz hn hh hc, fun _ => rfl, fun _ => rfl, fun _ => rfl,
    fun _ => rfl, rfl, rfl⟩

/-- Where the mask holds all four flags any may be written. -/
theorem keepsRest_setFlags_all {w : MayWrite} (hw : w.flags = 0xF0) (z n h c : Bool) (s : State) :
    KeepsRest w s (setFlags z n h c s) :=
  keepsRest_setFlags 0xF0 hw (.inl rfl) (.inl rfl) (.inl rfl) (.inl rfl)

/-! ### The meanings that touch no memory -/

/-- A form that lists no address has the frame `w` when it keeps the rest of `w`. -/
theorem frameOf_of_keepsRest {i : Instr} {w : MayWrite} (hstores : ∀ s, storesAt i s = [])
    (hkeeps : ∀ s t, exec i s = .next t → KeepsRest w s t) : FrameOf i w := fun s t _ h _ =>
  ⟨hkeeps s t h, exec_storesNothing (hstores s) h⟩

theorem frameOf_ldRegReg (d r : Reg8) : FrameOf (.ldRegReg d r) { regs := [d] } := by
  refine frameOf_of_keepsRest (fun _ => by cases d <;> cases r <;> rfl) fun s t h => ?_
  rw [exec_ldRegReg] at h
  cases h
  exact keepsRest_setReg (by simp) _ s

theorem frameOf_ldRegImm (d : Reg8) (n : Byte) : FrameOf (.ldRegImm d n) { regs := [d] } := by
  refine frameOf_of_keepsRest (fun _ => by cases d <;> rfl) fun s t h => ?_
  rw [exec_ldRegImm] at h
  cases h
  exact keepsRest_setReg (by simp) _ s

/-- What a write of a pair may write. -/
def writesPair (p : Rp) : MayWrite :=
  match p with
  | .BC => { regs := [.B, .C] }
  | .DE => { regs := [.D, .E] }
  | .HL => { regs := [.H, .L] }
  | .SP => { sp := true }

theorem keepsRest_setPair (p : Rp) (v : Word) (s : State) : KeepsRest (writesPair p) s (setPair p.pair v s) := by
  cases p with
  | BC => exact keepsRest_halves (hi := .B) (lo := .C) (by decide) (by decide) (highByte v) (lowByte v) s
  | DE => exact keepsRest_halves (hi := .D) (lo := .E) (by decide) (by decide) (highByte v) (lowByte v) s
  | HL => exact keepsRest_halves (hi := .H) (lo := .L) (by decide) (by decide) (highByte v) (lowByte v) s
  | SP => exact keepsRest_sp rfl v s

theorem keepsRest_setHL {w : MayWrite} (hH : .H ∈ w.regs) (hL : .L ∈ w.regs) (v : Word) (s : State) :
    KeepsRest w s (setPair .HL v s) :=
  keepsRest_halves hH hL (highByte v) (lowByte v) s

theorem frameOf_ldPairImm (p : Rp) (n : Word) : FrameOf (.ldPairImm p n) (writesPair p) := by
  refine frameOf_of_keepsRest (fun _ => by cases p <;> rfl) fun s t h => ?_
  rw [exec_ldPairImm] at h
  cases h
  exact keepsRest_setPair p n s

theorem frameOf_incPair (p : Rp) : FrameOf (.incPair p) (writesPair p) := by
  refine frameOf_of_keepsRest (fun _ => by cases p <;> rfl) fun s t h => ?_
  rw [exec_incPair] at h
  cases h
  exact keepsRest_setPair p _ s

theorem frameOf_decPair (p : Rp) : FrameOf (.decPair p) (writesPair p) := by
  refine frameOf_of_keepsRest (fun _ => by cases p <;> rfl) fun s t h => ?_
  rw [exec_decPair] at h
  cases h
  exact keepsRest_setPair p _ s

theorem frameOf_addHL (p : Rp) : FrameOf (.addHL p) { regs := [.H, .L], flags := 0x70 } := by
  refine frameOf_of_keepsRest (fun _ => by cases p <;> rfl) fun s t h => ?_
  rw [exec_addHL] at h
  cases h
  exact (keepsRest_setFlags 0x70 rfl (.inr rfl) (.inl rfl) (.inl rfl) (.inl rfl)).trans
    (keepsRest_setHL (by simp) (by simp) _ _)

/-- An accumulator operation writes A, unless it is CP, and the flags. -/
theorem keepsRest_accumulate {w : MayWrite} {o : AluOp} (hA : o = .CP ∨ .A ∈ w.regs) (hw : w.flags = 0xF0) (v : Byte)
    (s : State) : KeepsRest w s (accumulate o v s) := by
  have hflags : ∀ z n h c u, KeepsRest w u (setFlags z n h c u) := keepsRest_setFlags_all hw
  have hboth : .A ∈ w.regs → ∀ a z n h c, KeepsRest w s (setFlags z n h c (setReg .A a s)) := fun hA a z n h c =>
    (keepsRest_setReg hA a s).trans (hflags z n h c _)
  cases o with
  | CP => exact hflags _ _ _ _ s
  | _ => exact hboth (hA.resolve_left (by decide)) _ _ _ _ _

theorem frameOf_alu {o : AluOp} {w : MayWrite} (hA : o = .CP ∨ .A ∈ w.regs) (hw : w.flags = 0xF0) (r : Reg8) :
    FrameOf (.alu o (.reg r)) w := by
  refine frameOf_of_keepsRest (fun _ => by cases o <;> cases r <;> rfl) fun s t h => ?_
  rw [exec_alu] at h
  cases h
  exact keepsRest_accumulate hA hw _ s

theorem frameOf_aluImm {o : AluOp} {w : MayWrite} (hA : o = .CP ∨ .A ∈ w.regs) (hw : w.flags = 0xF0) (n : Byte) :
    FrameOf (.aluImm o n) w := by
  refine frameOf_of_keepsRest (fun _ => by cases o <;> rfl) fun s t h => ?_
  rw [exec_aluImm] at h
  cases h
  exact keepsRest_accumulate hA hw _ s

theorem frameOf_inc (r : Reg8) : FrameOf (.inc (.reg r)) { regs := [r], flags := 0xE0 } := by
  refine frameOf_of_keepsRest (fun _ => by cases r <;> rfl) fun s t h => ?_
  rw [exec_inc] at h
  cases h
  exact (keepsRest_setReg (by simp) _ s).trans (keepsRest_setFlags 0xE0 rfl (.inl rfl) (.inl rfl) (.inl rfl) (.inr rfl))

theorem frameOf_dec (r : Reg8) : FrameOf (.dec (.reg r)) { regs := [r], flags := 0xE0 } := by
  refine frameOf_of_keepsRest (fun _ => by cases r <;> rfl) fun s t h => ?_
  rw [exec_dec] at h
  cases h
  exact (keepsRest_setReg (by simp) _ s).trans (keepsRest_setFlags 0xE0 rfl (.inl rfl) (.inl rfl) (.inl rfl) (.inr rfl))

theorem frameOf_rot (k : RotOp) (r : Reg8) : FrameOf (.rot k (.reg r)) { regs := [r], flags := 0xF0 } := by
  refine frameOf_of_keepsRest (fun _ => by cases k <;> cases r <;> rfl) fun s t h => ?_
  rw [exec_rot] at h
  cases h
  exact (keepsRest_setReg (by simp) _ s).trans (keepsRest_setFlags_all rfl _ _ _ _ _)

theorem frameOf_bit (y : Bit3) (r : Reg8) : FrameOf (.bit y (.reg r)) { flags := 0xE0 } := by
  refine frameOf_of_keepsRest (fun _ => by cases y <;> cases r <;> rfl) fun s t h => ?_
  rw [exec_bit] at h
  cases h
  exact keepsRest_setFlags 0xE0 rfl (.inl rfl) (.inl rfl) (.inl rfl) (.inr rfl)

theorem frameOf_res (y : Bit3) (r : Reg8) : FrameOf (.res y (.reg r)) { regs := [r] } := by
  refine frameOf_of_keepsRest (fun _ => by cases y <;> cases r <;> rfl) fun s t h => ?_
  rw [exec_res] at h
  cases h
  exact keepsRest_setReg (by simp) _ s

theorem frameOf_set (y : Bit3) (r : Reg8) : FrameOf (.set y (.reg r)) { regs := [r] } := by
  refine frameOf_of_keepsRest (fun _ => by cases y <;> cases r <;> rfl) fun s t h => ?_
  rw [exec_set] at h
  cases h
  exact keepsRest_setReg (by simp) _ s

/-- A jump with a condition, taken or not. -/
theorem keepsRest_jump {taken : Bool} {target : Word} {s t : State}
    (h : (if taken then jump target s else .next s) = .next t) : KeepsRest { pc := true } s t := by
  split at h <;> cases h
  · exact keepsRest_pc rfl target s
  · exact .refl _ s

theorem frameOf_jpCond (cc : Cond) (a16 : Word) : FrameOf (.jpCond cc a16) { pc := true } := by
  refine frameOf_of_keepsRest (fun _ => by cases cc <;> rfl) fun s t h => ?_
  rw [exec_jpCond] at h
  exact keepsRest_jump h

theorem frameOf_jrCond (cc : Cond) (e : Byte) : FrameOf (.jrCond cc e) { pc := true } := by
  refine frameOf_of_keepsRest (fun _ => by cases cc <;> rfl) fun s t h => ?_
  rw [exec_jrCond] at h
  exact keepsRest_jump h

theorem haltOrNot_keepsRest {s t : State} (h : haltOrNot s = .next t) : KeepsRest { halted := true } s t := by
  obtain rfl | rfl := haltOrNot_cases h
  · exact keepsRest_halted rfl true s
  · exact .refl _ _

theorem frameOf_daa : FrameOf .daa { regs := [.A], flags := 0xB0 } :=
  frameOf_of_keepsRest (fun _ => rfl) fun s _ h => by
    cases h
    exact (keepsRest_setReg (r := .A) (by simp) _ s).trans
      (keepsRest_setFlags 0xB0 rfl (.inl rfl) (.inr rfl) (.inl rfl) (.inl rfl))

theorem frameOf_cpl : FrameOf .cpl { regs := [.A], flags := 0x60 } :=
  frameOf_of_keepsRest (fun _ => rfl) fun s _ h => by
    cases h
    exact (keepsRest_setReg (r := .A) (by simp) _ s).trans
      (keepsRest_setFlags 0x60 rfl (.inr rfl) (.inl rfl) (.inl rfl) (.inr rfl))

/-- RLCA, RRCA, RLA and RRA, each a law on A. -/
theorem frameOf_rotateA {i : Instr} {k : RotOp} (hstores : ∀ s, storesAt i s = []) (hexec : exec i = rotateA k) :
    FrameOf i { regs := [.A], flags := 0xF0 } :=
  frameOf_of_keepsRest hstores fun s t h => by
    rw [hexec] at h
    cases h
    exact (keepsRest_setReg (r := .A) (by simp) _ s).trans (keepsRest_setFlags_all rfl _ _ _ _ _)

theorem frameOf_add_SP_e8 (e : Byte) : FrameOf (.add_SP_e8 e) { flags := 0xF0, sp := true } :=
  frameOf_of_keepsRest (fun _ => rfl) fun s _ h => by
    cases h
    exact (keepsRest_setFlags_all rfl _ _ _ _ s).trans (keepsRest_sp rfl _ _)

theorem frameOf_ld_HL_SPe8 (e : Byte) : FrameOf (.ld_HL_SPe8 e) { regs := [.H, .L], flags := 0xF0 } :=
  frameOf_of_keepsRest (fun _ => rfl) fun s _ h => by
    cases h
    exact (keepsRest_setFlags_all rfl _ _ _ _ s).trans (keepsRest_setHL (by simp) (by simp) _ _)

theorem frameOf_ld_SP_HL : FrameOf .ld_SP_HL { sp := true } :=
  frameOf_of_keepsRest (fun _ => rfl) fun s _ h => by cases h; exact keepsRest_sp rfl _ s

/-- JP a16, JP HL and JR e8: PC becomes a target computed from the start state. -/
theorem frameOf_jump {i : Instr} {target : State → Word} (hstores : ∀ s, storesAt i s = [])
    (hexec : ∀ s, exec i s = jump (target s) s) : FrameOf i { pc := true } :=
  frameOf_of_keepsRest hstores fun s t h => by
    rw [hexec] at h
    cases h
    exact keepsRest_pc rfl (target s) s

theorem frameOf_nop : FrameOf .nop {} := frameOf_of_keepsRest (fun _ => rfl) fun s _ h => by cases h; exact .refl _ s

theorem frameOf_halt : FrameOf .halt { halted := true } :=
  frameOf_of_keepsRest (fun _ => rfl) fun _ _ => haltOrNot_keepsRest

theorem frameOf_stop (b : Byte) : FrameOf (.stop b) { halted := true } :=
  frameOf_of_keepsRest (fun _ => rfl) fun _ _ => haltOrNot_keepsRest

theorem frameOf_di : FrameOf .di { ime := true } :=
  frameOf_of_keepsRest (fun _ => rfl) fun s _ h => by cases h; exact keepsRest_ime rfl false s

theorem frameOf_ei : FrameOf .ei { ime := true } :=
  frameOf_of_keepsRest (fun _ => rfl) fun s _ h => by cases h; exact keepsRest_ime rfl true s

theorem frameOf_scf : FrameOf .scf { flags := 0x70 } :=
  frameOf_of_keepsRest (fun _ => rfl) fun s _ h => by
    cases h
    exact keepsRest_setFlags 0x70 rfl (.inr rfl) (.inl rfl) (.inl rfl) (.inl rfl)

theorem frameOf_ccf : FrameOf .ccf { flags := 0x70 } :=
  frameOf_of_keepsRest (fun _ => rfl) fun s _ h => by
    cases h
    exact keepsRest_setFlags 0x70 rfl (.inr rfl) (.inl rfl) (.inl rfl) (.inl rfl)

end Sys2Proof.Machine

open Sys2Proof Sys2Proof.Machine

/-- Settles O54: no form of the list stores, and each is built of updates of what its frame names. -/
theorem frameOfRegisterForms : Obligations.FrameOfRegisterForms := by
  exact ⟨fun d r n => ⟨frameOf_ldRegReg d r, frameOf_ldRegImm d n⟩,
    fun n => ⟨frameOf_ldPairImm .BC n, frameOf_ldPairImm .DE n, frameOf_ldPairImm .HL n, frameOf_ldPairImm .SP n⟩,
    frameOf_ld_SP_HL,
    fun o r n _ => ⟨frameOf_alu (.inr (by simp)) rfl r, frameOf_aluImm (.inr (by simp)) rfl n⟩,
    fun r n => ⟨frameOf_alu (.inl rfl) rfl r, frameOf_aluImm (.inl rfl) rfl n⟩,
    fun r => ⟨frameOf_inc r, frameOf_dec r⟩, frameOf_daa, frameOf_cpl, frameOf_addHL,
    ⟨frameOf_incPair .BC, frameOf_decPair .BC, frameOf_incPair .DE, frameOf_decPair .DE, frameOf_incPair .HL,
      frameOf_decPair .HL, frameOf_incPair .SP, frameOf_decPair .SP⟩,
    fun e => ⟨frameOf_add_SP_e8 e, frameOf_ld_HL_SPe8 e⟩,
    fun cc a16 e => ⟨frameOf_jump (fun _ => rfl) fun _ => rfl, frameOf_jpCond cc a16,
      frameOf_jump (fun _ => rfl) fun _ => rfl, frameOf_jump (fun _ => rfl) fun _ => rfl, frameOf_jrCond cc e⟩,
    ⟨frameOf_rotateA (k := .RLC) (fun _ => rfl) rfl, frameOf_rotateA (k := .RL) (fun _ => rfl) rfl,
      frameOf_rotateA (k := .RRC) (fun _ => rfl) rfl, frameOf_rotateA (k := .RR) (fun _ => rfl) rfl⟩,
    fun k y r => ⟨frameOf_rot k r, frameOf_bit y r, frameOf_res y r, frameOf_set y r⟩,
    fun b => ⟨frameOf_nop, frameOf_halt, frameOf_stop b, frameOf_di, frameOf_ei, frameOf_scf, frameOf_ccf⟩⟩
end

-- ====
section
/-! PROOFS. The memory (20_memory.md), range by range: what a read of an address gives and what a write to it sets
(R63 to R77), and from that, once for all addresses, that a stored byte is read back and that no other byte reads
differently (R85). -/

namespace Sys2Proof.Machine

/-! ### Reads and writes, range by range -/

/-- A read that gives a byte, anywhere but at the serial port, changes nothing (R82). -/
theorem readByte_of_ok_of_ne {addr : Word} {s : State} {v : Byte} (h : readValue addr s = .ok v)
    (hne : addr.toNat ≠ 0xFF01) : readByte addr s = .done v s := by
  rw [readByte_of_ok h, afterRead_of_ne_serial (mt (region_serial_iff addr).1 hne)]

/-- A read of a ROM address reads the image (R63, R77). -/
theorem readValue_rom {addr : Word} (h : addr.toNat ≤ 0x7FFF) (s : State) : readValue addr s = romRead addr s := by
  unfold readValue
  rcases (region_rom_iff addr).2 (by omega) with hr | hr <;> rw [hr]

/-- The image index of a ROM address (R63, R77). -/
theorem romIndex_of_rom {addr : Word} (h : addr.toNat ≤ 0x7FFF) (s : State) :
    romIndex addr s = if addr.toNat ≤ 0x3FFF ∨ s.params.romReadMode = .flat then addr.toNat
      else s.romBank.toNat * 0x4000 + (addr.toNat - 0x4000) := by
  unfold romIndex
  by_cases hfixed : addr.toNat ≤ 0x3FFF
  · rw [(region_romFixed_iff addr).2 hfixed, if_pos (.inl hfixed)]
  · rw [(region_romBank_iff addr).2 (by omega)]
    cases hmode : s.params.romReadMode with
    | flat => rw [if_pos (.inr rfl)]
    | banked => rw [if_neg (by simp [hfixed])]

/-- WRAM and its echo hold one byte for each address modulo 0x2000 (R64, R65). -/
theorem region_work {addr : Word} (hlo : 0xC000 ≤ addr.toNat) (hhi : addr.toNat ≤ 0xFDFF) :
    (region addr = .wram ∧ addr.toNat - 0xC000 = addr.toNat % 0x2000) ∨
      (region addr = .echo ∧ addr.toNat - 0xE000 = addr.toNat % 0x2000) := by
  rw [region_wram_iff, region_echo_iff]
  omega

theorem readValue_work {addr : Word} (hlo : 0xC000 ≤ addr.toNat) (hhi : addr.toNat ≤ 0xFDFF) (s : State) :
    readValue addr s = .ok (Memory.read s.wram (addr.toNat % 0x2000)) := by
  rcases region_work hlo hhi with ⟨hr, hidx⟩ | ⟨hr, hidx⟩ <;> simp only [readValue, hr, hidx]

theorem writeByte_work {addr : Word} (hlo : 0xC000 ≤ addr.toNat) (hhi : addr.toNat ≤ 0xFDFF) (v : Byte) (s : State) :
    writeByte addr v s = .done () { s with wram := Memory.write s.wram (addr.toNat % 0x2000) v } := by
  rcases region_work hlo hhi with ⟨hr, hidx⟩ | ⟨hr, hidx⟩ <;> simp only [writeByte, hr, hidx]

theorem readValue_hram {addr : Word} (h : region addr = .hram) (s : State) :
    readValue addr s = .ok (Memory.read s.hram (addr.toNat - 0xFF80)) := by
  simp only [readValue, h]

theorem writeByte_hram {addr : Word} (h : region addr = .hram) (v : Byte) (s : State) :
    writeByte addr v s = .done () { s with hram := Memory.write s.hram (addr.toNat - 0xFF80) v } := by
  simp only [writeByte, h]

theorem readValue_ie {addr : Word} (h : region addr = .ie) (s : State) : readValue addr s = .ok s.ie := by
  simp only [readValue, h]

theorem writeByte_ie {addr : Word} (h : region addr = .ie) (v : Byte) (s : State) :
    writeByte addr v s = .done () { s with ie := v } := by
  simp only [writeByte, h]

theorem readValue_backed {addr : Word} {s : State} (h : region addr = .cartRam)
    (hmode : s.params.cartRamMode = .backed8K) :
    readValue addr s = .ok (Memory.read s.cartRam (addr.toNat - 0xA000)) := by
  simp only [readValue, h, hmode]

theorem writeByte_backed {addr : Word} {s : State} (h : region addr = .cartRam)
    (hmode : s.params.cartRamMode = .backed8K) (v : Byte) :
    writeByte addr v s = .done () { s with cartRam := Memory.write s.cartRam (addr.toNat - 0xA000) v } := by
  simp only [writeByte, h, hmode]

theorem writeByte_serial {addr : Word} (h : region addr = .serial) (v : Byte) (s : State) :
    writeByte addr v s = .done () (serialPut v s) := by
  simp only [writeByte, h]

/-- `addr` lies in a range that holds nothing: a stub region (R66), or cartridge RAM under `stub` (R73). -/
def ReadsZero (addr : Word) (s : State) : Prop :=
  region addr = .vram ∨ region addr = .oam ∨ region addr = .unusableLower ∨ region addr = .io ∨
    region addr = .unusableUpper ∨ (region addr = .cartRam ∧ s.params.cartRamMode = .stub)

theorem readsZero_access {addr : Word} {s : State} (h : ReadsZero addr s) (v : Byte) :
    readByte addr s = .done 0x00 s ∧ writeByte addr v s = .done () s := by
  have hread : readValue addr s = .ok 0x00 := by
    rcases h with hr | hr | hr | hr | hr | ⟨hr, hmode⟩ <;> simp only [readValue, *]
  have hne : addr.toNat ≠ 0xFF01 := by
    rw [Ne, ← region_serial_iff]
    rcases h with hr | hr | hr | hr | hr | ⟨hr, hmode⟩ <;> rw [hr] <;> decide
  refine ⟨readByte_of_ok_of_ne hread hne, ?_⟩
  rcases h with hr | hr | hr | hr | hr | ⟨hr, hmode⟩ <;> simp only [writeByte, *]

/-! ### Every write -/

/-- What a write that raises no fault can do: set one byte of storage, select the bank or the mode, put a byte out at the
serial port, or nothing (R62 to R76). -/
inductive ByteWritten (addr : Word) (v : Byte) (s : State) : State → Prop
  | work (hlo : 0xC000 ≤ addr.toNat) (hhi : addr.toNat ≤ 0xFDFF) :
    ByteWritten addr v s { s with wram := Memory.write s.wram (addr.toNat % 0x2000) v }
  | hram (hr : region addr = .hram) :
    ByteWritten addr v s { s with hram := Memory.write s.hram (addr.toNat - 0xFF80) v }
  | ie (hr : region addr = .ie) : ByteWritten addr v s { s with ie := v }
  | backed (hr : region addr = .cartRam) (hmode : s.params.cartRamMode = .backed8K) :
    ByteWritten addr v s { s with cartRam := Memory.write s.cartRam (addr.toNat - 0xA000) v }
  | bank (hlo : 0x2000 ≤ addr.toNat) (hhi : addr.toNat ≤ 0x3FFF) :
    ByteWritten addr v s { s with romBank := selectBank s.params.romBankMask v }
  | mode (hlo : 0x6000 ≤ addr.toNat) (hhi : addr.toNat ≤ 0x7FFF) :
    ByteWritten addr v s { s with mapperMode := selectMode v }
  | serial (hr : region addr = .serial) : ByteWritten addr v s (serialPut v s)
  | nothing (hz : ReadsZero addr s) : ByteWritten addr v s s

/-- A write to a ROM address that raises no fault selects the bank or the mode (R74 to R76). -/
theorem byteWritten_of_rom {addr : Word} {v : Byte} {s t : State} (hrom : addr.toNat < 0x8000)
    (h : writeByte addr v s = .done () t) : ByteWritten addr v s t := by
  rw [writeByte_of_rom hrom, mapperWrite] at h
  split_ifs at h with hbank hmode <;> cases h
  · exact .bank hbank.1 hbank.2
  · exact .mode hmode.1 hmode.2

theorem byteWritten_of_done {addr : Word} {v : Byte} {s t : State} (h : writeByte addr v s = .done () t) :
    ByteWritten addr v s t := by
  have hwork : 0xC000 ≤ addr.toNat ∧ addr.toNat ≤ 0xFDFF → ByteWritten addr v s t := fun ⟨hlo, hhi⟩ => by
    rw [writeByte_work hlo hhi] at h
    cases h
    exact .work hlo hhi
  have hnothing : ReadsZero addr s → ByteWritten addr v s t := fun hz => by
    rw [(readsZero_access hz v).2] at h
    cases h
    exact .nothing hz
  cases hr : region addr with
  | wram => rw [region_wram_iff] at hr; exact hwork (by omega)
  | echo => rw [region_echo_iff] at hr; exact hwork (by omega)
  | hram => rw [writeByte_hram hr] at h; cases h; exact .hram hr
  | ie => rw [writeByte_ie hr] at h; cases h; exact .ie hr
  | serial => rw [writeByte_serial hr] at h; cases h; exact .serial hr
  | cartRam =>
    cases hmode : s.params.cartRamMode with
    | stub => exact hnothing (by simp [ReadsZero, hr, hmode])
    | backed8K => rw [writeByte_backed hr hmode] at h; cases h; exact .backed hr hmode
  | romBank => exact byteWritten_of_rom ((region_rom_iff addr).1 (.inl hr)) h
  | romFixed => exact byteWritten_of_rom ((region_rom_iff addr).1 (.inr hr)) h
  | _ => exact hnothing (by simp [ReadsZero, hr])

/-! ### Read after write -/

/-- What a read gives depends on the byte at its address alone, and in the window on the bank. -/
theorem readValue_congr_byte {s t : State} {addr : Word} (hp : t.params = s.params := by simp)
    (hd : t.draws = s.draws := by simp) (hbank : region addr = .romBank → t.romBank = s.romBank := by simp)
    (hwork : 0xC000 ≤ addr.toNat → addr.toNat ≤ 0xFDFF →
      Memory.read t.wram (addr.toNat % 0x2000) = Memory.read s.wram (addr.toNat % 0x2000) := by simp)
    (hhram : region addr = .hram →
      Memory.read t.hram (addr.toNat - 0xFF80) = Memory.read s.hram (addr.toNat - 0xFF80) := by simp)
    (hie : region addr = .ie → t.ie = s.ie := by simp)
    (hcart : region addr = .cartRam →
      Memory.read t.cartRam (addr.toNat - 0xA000) = Memory.read s.cartRam (addr.toNat - 0xA000) := by simp) :
    readValue addr t = readValue addr s := by
  by_cases hw : 0xC000 ≤ addr.toNat ∧ addr.toNat ≤ 0xFDFF
  · rw [readValue_work hw.1 hw.2, readValue_work hw.1 hw.2, hwork hw.1 hw.2]
  unfold readValue romRead romIndex
  rw [hp, hd]
  cases hr : region addr with
  | wram => rw [region_wram_iff] at hr; omega
  | echo => rw [region_echo_iff] at hr; omega
  | hram => simp only [hhram hr]
  | ie => simp only [hie hr]
  | cartRam => simp only [hcart hr]
  | romBank => simp only [hbank hr]
  | _ => rfl

theorem toNat_ne_of_not_sameByte {x y : Word} (h : ¬ SameByte x y) : y.toNat ≠ x.toNat :=
  fun e => h (.inl (BitVec.eq_of_toNat_eq e.symm))

/-- A write changes what no other byte reads, but for what is read through the bank it selects (R74, R77, R85). -/
theorem readValue_writeByte_other {x y : Word} {v : Byte} {s t : State} (h : writeByte x v s = .done () t)
    (hbyte : ¬ SameByte x y) (hbank : ¬ SeenThroughBank x y) : readValue y t = readValue y s := by
  have hne := toNat_ne_of_not_sameByte hbyte
  cases byteWritten_of_done h with
  | work hlo hhi =>
    refine readValue_congr_byte (hwork := fun hylo hyhi => Memory.read_write_other _ (fun e => hbyte (.inr ?_)) v)
    exact ⟨hlo, hhi, hylo, hyhi, e.symm⟩
  | hram hr =>
    rw [region_hram_iff] at hr
    refine readValue_congr_byte (hhram := fun hy => Memory.read_write_other _ ?_ v)
    rw [region_hram_iff] at hy
    omega
  | ie hr =>
    rw [region_ie_iff] at hr
    exact readValue_congr_byte (hie := fun hy => absurd ((region_ie_iff y).1 hy) (hr ▸ hne))
  | backed hr hmode =>
    rw [region_cartRam_iff] at hr
    refine readValue_congr_byte (hcart := fun hy => Memory.read_write_other _ ?_ v)
    rw [region_cartRam_iff] at hy
    omega
  | bank hlo hhi =>
    exact readValue_congr_byte (hbank := fun hy => absurd ⟨⟨hlo, hhi⟩, (region_romBank_iff y).1 hy⟩ hbank)
  | mode hlo hhi => exact readValue_congr_byte
  | serial hr => exact readValue_congr_byte
  | nothing hz => rfl

/-- A byte of work RAM is read back at both its addresses (R64, R65). -/
theorem readValue_writeByte_work {x y : Word} {v : Byte} {s t : State} (hwf : Memory.wf s.wram = true)
    (hx : 0xC000 ≤ x.toNat ∧ x.toNat ≤ 0xFDFF) (hy : 0xC000 ≤ y.toNat ∧ y.toNat ≤ 0xFDFF)
    (hxy : x.toNat % 0x2000 = y.toNat % 0x2000) (h : writeByte x v s = .done () t) : readValue y t = .ok v := by
  rw [writeByte_work hx.1 hx.2] at h
  cases h
  rw [readValue_work hy.1 hy.2, ← hxy, Memory.read_write _ _ _ hwf]

/-- A stored byte is read back at its own address. -/
theorem readValue_writeByte_self {x : Word} {v : Byte} {s t : State} (hs : Arrays s) (hx : Stored x s)
    (h : writeByte x v s = .done () t) : readValue x t = .ok v := by
  obtain ⟨⟨hwram, _⟩, ⟨hhram, _⟩, ⟨hcart, _⟩⟩ := hs
  rcases hx with hx | hx | ⟨hlo, hhi, hmode⟩
  · exact readValue_writeByte_work hwram hx hx rfl h
  · by_cases htop : x.toNat = 0xFFFF
    · have hr := (region_ie_iff x).2 htop
      rw [writeByte_ie hr] at h
      cases h
      rw [readValue_ie hr]
    · have hr := (region_hram_iff x).2 (by omega)
      rw [writeByte_hram hr] at h
      cases h
      rw [readValue_hram hr, Memory.read_write _ _ _ hhram]
  · have hr := (region_cartRam_iff x).2 ⟨hlo, hhi⟩
    rw [writeByte_backed hr hmode] at h
    cases h
    refine (readValue_backed hr ?_).trans ?_
    · exact hmode
    · rw [Memory.read_write _ _ _ hcart]

end Sys2Proof.Machine

open Sys2Proof Sys2Proof.Machine

/-- Settles O19: one row of the table after another. -/
theorem regionTable : Obligations.RegionTable := fun x =>
  ⟨region_ie_iff x, region_hram_iff x, region_unusableUpper_iff x, region_serial_iff x, region_io_iff x,
    region_unusableLower_iff x, region_oam_iff x, region_echo_iff x, region_wram_iff x, region_cartRam_iff x,
    region_vram_iff x, region_romBank_iff x, region_romFixed_iff x⟩

/-- Settles O21: an address of work RAM and its echo names the byte at the address modulo 0x2000. -/
theorem workRamAndEcho : Obligations.WorkRamAndEcho := by
  refine ⟨fun k v s x hk hx => ?_, fun k v s t x y hk hxy hwf h => ?_, fun k v s t x y hlo hhi hx hne h => ?_⟩
  · have hidx : k = x.toNat % 0x2000 := by omega
    rw [hidx]
    have hlo : 0xC000 ≤ x.toNat := by omega
    have hhi : x.toNat ≤ 0xFDFF := by omega
    exact ⟨readByte_of_ok_of_ne (readValue_work hlo hhi s) (by omega), writeByte_work hlo hhi v s⟩
  · exact readByte_of_ok_of_ne
      (readValue_writeByte_work hwf (by omega) (by omega) (by omega) h) (by omega)
  · refine readValue_writeByte_other h ?_ (by omega)
    rintro (rfl | hsame)
    · exact hne rfl
    · exact hne (BitVec.eq_of_toNat_eq (by omega))

/-- Settles O29: a write sets the one byte its address names, and a read depends on its own byte alone. -/
theorem storeIsReadBackAndChangesNothingElse : Obligations.StoreIsReadBackAndChangesNothingElse := by
  rintro x v s t ⟨_, _, harrays⟩ h
  refine ⟨fun y hx hxy => ?_, fun y => readValue_writeByte_other h⟩
  rcases hxy with rfl | ⟨hxlo, hxhi, hylo, hyhi, hmod⟩
  · exact readValue_writeByte_self harrays hx h
  · exact readValue_writeByte_work harrays.1.1 ⟨hxlo, hxhi⟩ ⟨hylo, hyhi⟩ hmod h

/-- Settles O20: the index is that of R63 and R77, and the image answers up to its length. -/
theorem romReads : Obligations.RomReads := by
  rintro x s idx hx rfl
  rw [← romIndex_of_rom hx]
  have hread : readValue x s = romRead x s := readValue_rom hx s
  refine ⟨fun hlen => readByte_of_ok_of_ne ?_ (by omega), fun hlen => readByte_of_error ?_⟩
  · rw [hread, romRead, if_pos hlen]
  · rw [hread, romRead, if_neg (by omega)]

/-- Settles O22: the five ranges are the stub regions. -/
theorem stubRegions : Obligations.StubRegions := by
  intro x v s hx
  refine readsZero_access ?_ v
  simp only [ReadsZero, region_vram_iff, region_oam_iff, region_unusableLower_iff, region_io_iff, region_unusableUpper_iff]
  tauto

/-- Settles O23: the addresses of the indices below 127 are the region HRAM. -/
theorem highRam : Obligations.HighRam := by
  intro k v s x hk hx
  have hr : region x = .hram := (region_hram_iff x).2 (by omega)
  have hidx : k = x.toNat - 0xFF80 := by omega
  rw [hidx]
  exact ⟨readByte_of_ok_of_ne (readValue_hram hr s) (by omega), writeByte_hram hr v s⟩

/-- Settles O24: 0xFFFF is the region IE, whose byte is one field of the state. -/
theorem interruptEnableByte : Obligations.InterruptEnableByte := fun v s =>
  have hr : region 0xFFFF = .ie := (region_ie_iff _).2 rfl
  ⟨readByte_of_ok_of_ne (readValue_ie hr s) (by decide), writeByte_ie hr v s⟩

/-- Settles O25: a write is `serialPut`, whose two cases are the line feed and any other byte. -/
theorem serialPort : Obligations.SerialPort := by
  intro v s
  have hr : region 0xFF01 = .serial := (region_serial_iff _).2 rfl
  have hread : readValue 0xFF01 s = .ok (Config.serialRead s.draws) := by simp only [readValue, hr]
  rw [writeByte_serial hr, readByte_of_ok hread, serialPut, afterRead, if_pos hr]
  exact ⟨fun hv => by rw [if_neg hv], fun hv => by rw [if_pos hv], rfl⟩

/-- Settles O26: the two control ranges of `mapperWrite`, and the fault outside them. -/
theorem mapperWrites : Obligations.MapperWrites := by
  intro x v s
  have hmode : selectMode v = if v.toNat % 2 = 0 then .rom16M_ram8K else .rom4M_ram32K := by
    simp only [selectMode, BitVec.getLsbD, Nat.testBit_zero, decide_eq_false_iff_not, Nat.mod_two_not_eq_one]
  refine ⟨fun hlo hhi => ?_, fun hlo hhi => ?_, fun hx => writeByte_of_not_writable (by omega) v s⟩
  · rw [writeByte_of_rom (by omega), mapperWrite, if_pos ⟨hlo, hhi⟩, selectBank]
  · rw [writeByte_of_rom (by omega), mapperWrite, if_neg (by omega), if_pos ⟨hlo, hhi⟩, hmode]

/-- Settles O27: one case for each of the two modes. -/
theorem cartridgeRam : Obligations.CartridgeRam := by
  intro k v s x hk hx
  have hr : region x = .cartRam := (region_cartRam_iff x).2 (by omega)
  have hidx : k = x.toNat - 0xA000 := by omega
  rw [hidx]
  exact ⟨fun hmode => readsZero_access (by simp [ReadsZero, hr, hmode]) v, fun hmode =>
    ⟨readByte_of_ok_of_ne (readValue_backed hr hmode) (by omega), writeByte_backed hr hmode v⟩⟩

/-- Settles O28: both word accesses are defined as two byte accesses; what is left is which byte is which. -/
theorem wordAccessesAreTwoByteAccesses : Obligations.WordAccessesAreTwoByteAccesses := by
  intro x v s
  rw [← highByte_eq, ← lowByte_eq]
  refine ⟨fun lo hi s1 s2 hlo hhi => ⟨wordOfBytes hi lo, ?_, wordOfBytes_toNat hi lo⟩, fun s1 s2 hlo hhi => ?_,
    fun f s1 hlo => ?_⟩
  · rw [readWord, hlo, andThen_done, hhi, andThen_done]
  · rw [writeWord, hlo, andThen_done, hhi]
  · rw [writeWord, hlo, andThen_raised]
end

-- ====
section
/-! PROOFS. The frames of the forms that read memory and of those that store (20_memory.md R82, R85): what each leaves
alone besides memory (`KeepsRest`), part by part of its meaning, and that it stores where `exec_storesWithin` says. -/

namespace Sys2Proof.Machine

/-! ### Where a form stores, as its frame says it -/

/-- A write elsewhere than at the serial port leaves the serial buffers alone. -/
theorem writeByte_serial_of_ne {addr : Word} {v : Byte} {s t : State} (hne : addr ≠ 0xFF01)
    (h : writeByte addr v s = .done () t) : t.serialLine = s.serialLine ∧ t.serialOut = s.serialOut := by
  cases byteWritten_of_done h with
  | serial hr => exact absurd (BitVec.eq_of_toNat_eq ((region_serial_iff addr).1 hr)) hne
  | _ => exact ⟨rfl, rfl⟩

/-- A byte that is none of those at the listed addresses reads as before. -/
theorem StoresWithin.readValue_eq {A : List Word} {s t : State} (h : StoresWithin A s t) {y : Word} (hy : y ≠ 0xFF01)
    (hA : ∀ x ∈ A, ¬ SameByte x y ∧ ¬ SeenThroughBank x y) : readValue y t = readValue y s := by
  induction h with
  | refl => rfl
  | tail _ hstep ih =>
    obtain hsame | ⟨x, hx, v, hw⟩ := hstep
    · exact (hsame.storesNothing.1 y hy).trans ih
    · exact (readValue_writeByte_other hw (hA x hx).1 (hA x hx).2).trans ih

theorem StoresWithin.serial {A : List Word} {s t : State} (h : StoresWithin A s t) (hA : 0xFF01 ∉ A) :
    t.serialLine = s.serialLine ∧ t.serialOut = s.serialOut := by
  induction h with
  | refl => exact ⟨rfl, rfl⟩
  | tail _ hstep ih =>
    obtain ⟨hline, hout⟩ := ih
    obtain hsame | ⟨x, hx, v, hw⟩ := hstep
    · exact ⟨hsame.serialLine.trans hline, hsame.serialOut.trans hout⟩
    · obtain ⟨hline', hout'⟩ := writeByte_serial_of_ne (fun e => hA (e ▸ hx)) hw
      exact ⟨hline'.trans hline, hout'.trans hout⟩

theorem StoresWithin.storesOnlyAt {A : List Word} {s t : State} (h : StoresWithin A s t) : StoresOnlyAt A s t := by
  refine ⟨fun y hy hA => h.readValue_eq hy hA, fun hge => ⟨?_, ?_⟩, h.serial⟩
  · by_contra hne
    obtain ⟨x, hx, hrange⟩ := h.romBank hne
    have := hge x hx
    omega
  · by_contra hne
    obtain ⟨x, hx, hrange⟩ := h.mapperMode hne
    have := hge x hx
    omega

/-! ### Parts of a step and what they leave alone -/

/-- A part of a step that writes besides memory only what `w` names, whether it is done or raises a fault. -/
abbrev Keeps (w : MayWrite) {α : Type} (s : State) (r : Access α) : Prop := Reaches (KeepsRest w) s r

theorem keepsRest_setF {w : MayWrite} (hw : w.flags = 0xF0) (v : Byte) (s : State) : KeepsRest w s (setF v s) := by
  have hmask : ∀ b : Byte, b &&& 0xF0 &&& ~~~w.flags = 0 := by rw [hw]; decide
  exact ⟨fun r _ => by cases r <;> rfl, (hmask _).trans (hmask _).symm, fun _ => rfl, fun _ => rfl, fun _ => rfl,
    fun _ => rfl, rfl, rfl⟩

section
variable {w : MayWrite}

theorem keepsRest_afterRead (addr : Word) (s : State) : KeepsRest w s (afterRead addr s) := by
  rw [afterRead_eq]
  exact ⟨fun r _ => by cases r <;> rfl, rfl, fun _ => rfl, fun _ => rfl, fun _ => rfl, fun _ => rfl, rfl, rfl⟩

theorem keepsRest_writeByte {addr : Word} {v : Byte} {s t : State} {u : Unit} (h : writeByte addr v s = .done u t) :
    KeepsRest w s t := by
  rw [writeByte_keeps h]
  exact ⟨fun r _ => by cases r <;> rfl, rfl, fun _ => rfl, fun _ => rfl, fun _ => rfl, fun _ => rfl, rfl, rfl⟩

variable {s t : State}

theorem keeps_readByte (addr : Word) (h : KeepsRest w s t) : Keeps w s (readByte addr t) := by
  unfold readByte
  cases readValue addr t with
  | ok v => exact h.trans (keepsRest_afterRead addr t)
  | error f => exact h

theorem keeps_writeByte (addr : Word) (v : Byte) (h : KeepsRest w s t) : Keeps w s (writeByte addr v t) := by
  cases hw : writeByte addr v t with
  | done _ u => exact h.trans (keepsRest_writeByte hw)
  | raised f u => rw [(writeByte_raised hw).1]; exact h

theorem keeps_readLoc (l : Loc8) (h : KeepsRest w s t) : Keeps w s (readLoc l t) := by
  cases l with
  | reg r => exact h
  | _ => exact keeps_readByte _ h

theorem keeps_readSrc (src : Src8) (h : KeepsRest w s t) : Keeps w s (readSrc src t) := by
  cases src with
  | loc l => exact keeps_readLoc l h
  | imm n => exact h

theorem keeps_writeLoc {l : Loc8} (hl : ∀ r, l = .reg r → r ∈ w.regs) (v : Byte) (h : KeepsRest w s t) :
    Keeps w s (writeLoc l v t) := by
  cases l with
  | reg r => exact h.trans (keepsRest_setReg (hl r rfl) v t)
  | _ => exact keeps_writeByte _ v h

theorem keeps_readWord (addr : Word) (h : KeepsRest w s t) : Keeps w s (readWord addr t) :=
  (keeps_readByte addr h).andThen fun _ _ h1 => (keeps_readByte _ h1).andThen fun _ _ h2 => h2

theorem keeps_writeWord (addr v : Word) (h : KeepsRest w s t) : Keeps w s (writeWord addr v t) :=
  (keeps_writeByte addr _ h).andThen fun _ _ h1 => keeps_writeByte _ _ h1

theorem keeps_pop16 (hsp : w.sp = true) (h : KeepsRest w s t) : Keeps w s (pop16 t) :=
  (keeps_readWord _ h).andThen fun _ u h1 => h1.trans (keepsRest_sp hsp (u.sp + 2) u)

theorem keeps_push16 (hsp : w.sp = true) (v : Word) (h : KeepsRest w s t) : Keeps w s (push16 v t) :=
  keeps_writeWord _ v (h.trans (keepsRest_sp hsp (t.sp - 2) t))

/-! ### Meanings that complete -/

/-- A fault is a `status` that is not running, so a meaning that ends running raised none. -/
theorem keepsRest_of_finish {r : Access Unit} (h : finish r = .next t) (hrun : t.status = .running)
    (hr : Keeps w s r) : KeepsRest w s t := by
  cases r with
  | done _ u => cases h; exact hr
  | raised f u => cases h; cases hrun

/-- An instruction with a condition, taken or not. -/
theorem keepsRest_of_taken {taken : Bool} {r : Result} (h : (if taken then r else .next s) = .next t)
    (hr : r = .next t → KeepsRest w s t) : KeepsRest w s t := by
  split at h
  · exact hr h
  · cases h; exact .refl _ _

theorem load8_keepsRest {dst : Loc8} (hdst : ∀ r, dst = .reg r → r ∈ w.regs) {src : Src8}
    (h : load8 dst src s = .next t) (hrun : t.status = .running) : KeepsRest w s t :=
  keepsRest_of_finish h hrun ((keeps_readSrc src (.refl w s)).andThen fun v _ h1 => keeps_writeLoc hdst v h1)

theorem storeStepHL_keepsRest (hH : .H ∈ w.regs) (hL : .L ∈ w.regs) {step : Word} (h : storeStepHL step s = .next t)
    (hrun : t.status = .running) : KeepsRest w s t :=
  keepsRest_of_finish h hrun ((keeps_writeByte _ _ (.refl w s)).andThen fun _ u h1 =>
    h1.trans (keepsRest_setHL hH hL _ u))

theorem loadStepHL_keepsRest (hA : .A ∈ w.regs) (hH : .H ∈ w.regs) (hL : .L ∈ w.regs) {step : Word}
    (h : loadStepHL step s = .next t) (hrun : t.status = .running) : KeepsRest w s t :=
  keepsRest_of_finish h hrun ((keeps_readByte _ (.refl w s)).andThen fun v u h1 =>
    h1.trans ((keepsRest_setReg hA v u).trans (keepsRest_setHL hH hL _ _)))

theorem aluA_keepsRest {o : AluOp} (hA : o = .CP ∨ .A ∈ w.regs) (hw : w.flags = 0xF0) {src : Src8}
    (h : aluA o src s = .next t) (hrun : t.status = .running) : KeepsRest w s t :=
  keepsRest_of_finish h hrun ((keeps_readSrc src (.refl w s)).andThen fun v u h1 =>
    h1.trans (keepsRest_accumulate hA hw v u))

/-- INC, DEC and BIT of a byte: C kept. -/
theorem keepsRest_setFlags_keepC (hw : w.flags = 0xE0) (z n h : Bool) (u : State) :
    KeepsRest w u (setFlags z n h (flagC u) u) :=
  keepsRest_setFlags 0xE0 hw (.inl rfl) (.inl rfl) (.inl rfl) (.inr rfl)

theorem bitTest_keepsRest (hw : w.flags = 0xE0) {b : Nat} {l : Loc8} (h : bitTest b l s = .next t)
    (hrun : t.status = .running) : KeepsRest w s t :=
  keepsRest_of_finish h hrun ((keeps_readLoc l (.refl w s)).andThen fun _ u h1 =>
    h1.trans (keepsRest_setFlags_keepC hw _ _ _ u))

section
variable {l : Loc8} (hl : ∀ r, l = .reg r → r ∈ w.regs)
include hl

theorem inc8_keepsRest (hw : w.flags = 0xE0) (h : inc8 l s = .next t) (hrun : t.status = .running) : KeepsRest w s t :=
  keepsRest_of_finish h hrun ((keeps_readLoc l (.refl w s)).andThen fun _ _ h1 =>
    (keeps_writeLoc hl _ h1).andThen fun _ u h2 => h2.trans (keepsRest_setFlags_keepC hw _ _ _ u))

theorem dec8_keepsRest (hw : w.flags = 0xE0) (h : dec8 l s = .next t) (hrun : t.status = .running) : KeepsRest w s t :=
  keepsRest_of_finish h hrun ((keeps_readLoc l (.refl w s)).andThen fun _ _ h1 =>
    (keeps_writeLoc hl _ h1).andThen fun _ u h2 => h2.trans (keepsRest_setFlags_keepC hw _ _ _ u))

theorem rotate_keepsRest (hw : w.flags = 0xF0) {k : RotOp} (h : rotate k l s = .next t) (hrun : t.status = .running) :
    KeepsRest w s t :=
  keepsRest_of_finish h hrun ((keeps_readLoc l (.refl w s)).andThen fun _ _ h1 =>
    (keeps_writeLoc hl _ h1).andThen fun _ u h2 => h2.trans (keepsRest_setFlags_all hw _ _ _ _ u))

theorem bitClear_keepsRest {b : Nat} (h : bitClear b l s = .next t) (hrun : t.status = .running) : KeepsRest w s t :=
  keepsRest_of_finish h hrun ((keeps_readLoc l (.refl w s)).andThen fun _ _ h1 => keeps_writeLoc hl _ h1)

theorem bitSet_keepsRest {b : Nat} (h : bitSet b l s = .next t) (hrun : t.status = .running) : KeepsRest w s t :=
  keepsRest_of_finish h hrun ((keeps_readLoc l (.refl w s)).andThen fun _ _ h1 => keeps_writeLoc hl _ h1)

end

theorem storeSP_keepsRest {addr : Word} (h : storeSP addr s = .next t) (hrun : t.status = .running) : KeepsRest w s t :=
  keepsRest_of_finish h hrun (keeps_writeWord addr _ (.refl w s))

theorem pushPair_keepsRest (hsp : w.sp = true) {rr : Reg16} (h : pushPair rr s = .next t) (hrun : t.status = .running) :
    KeepsRest w s t :=
  keepsRest_of_finish h hrun (keeps_push16 hsp _ (.refl w s))

theorem popPair_keepsRest (hsp : w.sp = true) {rr : Reg16} (hset : ∀ v u, KeepsRest w u (setPair rr v u))
    (h : popPair rr s = .next t) (hrun : t.status = .running) : KeepsRest w s t :=
  keepsRest_of_finish h hrun ((keeps_pop16 hsp (.refl w s)).andThen fun v u h1 => h1.trans (hset v u))

theorem call_keepsRest (hsp : w.sp = true) (hpc : w.pc = true) {target : Word} (h : call target s = .next t)
    (hrun : t.status = .running) : KeepsRest w s t :=
  keepsRest_of_finish h hrun ((keeps_push16 hsp _ (.refl w s)).andThen fun _ u h1 =>
    h1.trans (keepsRest_pc hpc target u))

theorem ret_keepsRest (hsp : w.sp = true) (hpc : w.pc = true) (h : ret s = .next t) (hrun : t.status = .running) :
    KeepsRest w s t :=
  keepsRest_of_finish h hrun ((keeps_pop16 hsp (.refl w s)).andThen fun v u h1 => h1.trans (keepsRest_pc hpc v u))

theorem retEnable_keepsRest (hsp : w.sp = true) (hpc : w.pc = true) (hime : w.ime = true) (h : retEnable s = .next t)
    (hrun : t.status = .running) : KeepsRest w s t :=
  keepsRest_of_finish h hrun ((keeps_pop16 hsp (.refl w s)).andThen fun v u h1 =>
    h1.trans ((keepsRest_pc hpc v u).trans (keepsRest_ime hime true _)))

end

/-! ### The forms that read memory and store nothing -/

/-- A form that lists no address has the frame `w` when its meaning keeps the rest of `w` wherever it completes. -/
theorem frameOf_of_completed {i : Instr} {w : MayWrite} {m : State → Result} (hstores : ∀ s, storesAt i s = [])
    (hexec : ∀ s, exec i s = m s) (hkeeps : ∀ {s t}, m s = .next t → t.status = .running → KeepsRest w s t) :
    FrameOf i w :=
  fun s _ _ h hrun => ⟨hkeeps ((hexec s).symm.trans h) hrun, exec_storesNothing (hstores s) h⟩

/-- A load of a register. -/
theorem frameOf_load8 {i : Instr} {d : Reg8} {src : Src8} (hstores : ∀ s, storesAt i s = [])
    (hexec : ∀ s, exec i s = load8 (.reg d) src s) : FrameOf i { regs := [d] } :=
  frameOf_of_completed hstores hexec (load8_keepsRest (by simp))

theorem frameOf_ldRegMem (d : Reg8) : FrameOf (.ldRegMem d) { regs := [d] } :=
  frameOf_load8 (fun _ => by cases d <;> rfl) (exec_ldRegMem d)

/-- A load of A and a step of HL. -/
theorem frameOf_loadStepHL {i : Instr} {step : Word} (hstores : ∀ s, storesAt i s = [])
    (hexec : ∀ s, exec i s = loadStepHL step s) : FrameOf i { regs := [.A, .H, .L] } :=
  frameOf_of_completed hstores hexec (loadStepHL_keepsRest (by simp) (by simp) (by simp))

/-- What a pop may write. -/
def writesPopped (q : Rp2) : MayWrite :=
  match q with
  | .BC => { regs := [.B, .C], sp := true }
  | .DE => { regs := [.D, .E], sp := true }
  | .HL => { regs := [.H, .L], sp := true }
  | .AF => { regs := [.A], flags := 0xF0, sp := true }

theorem keepsRest_setPopped (q : Rp2) (v : Word) (s : State) : KeepsRest (writesPopped q) s (setPair q.pair v s) := by
  cases q with
  | BC => exact keepsRest_halves (hi := .B) (lo := .C) (by decide) (by decide) (highByte v) (lowByte v) s
  | DE => exact keepsRest_halves (hi := .D) (lo := .E) (by decide) (by decide) (highByte v) (lowByte v) s
  | HL => exact keepsRest_halves (hi := .H) (lo := .L) (by decide) (by decide) (highByte v) (lowByte v) s
  | AF => exact (keepsRest_setReg (r := .A) (by decide) (highByte v) s).trans (keepsRest_setF rfl (lowByte v) _)

theorem frameOf_pop (q : Rp2) : FrameOf (.pop q) (writesPopped q) :=
  frameOf_of_completed (fun _ => by cases q <;> rfl) (exec_pop q)
    (popPair_keepsRest (by cases q <;> rfl) (keepsRest_setPopped q))

theorem frameOf_alu_mHL {o : AluOp} {w : MayWrite} (hA : o = .CP ∨ .A ∈ w.regs) (hw : w.flags = 0xF0) :
    FrameOf (.alu o .mHL) w :=
  frameOf_of_completed (fun _ => by cases o <;> rfl) (exec_alu o .mHL) (aluA_keepsRest hA hw)

theorem frameOf_ret : FrameOf .ret { sp := true, pc := true } :=
  frameOf_of_completed (fun _ => rfl) (fun _ => rfl) (ret_keepsRest rfl rfl)

theorem frameOf_retCond (cc : Cond) : FrameOf (.retCond cc) { sp := true, pc := true } :=
  frameOf_of_completed (fun _ => by cases cc <;> rfl) (exec_retCond cc) fun h hrun =>
    keepsRest_of_taken h (ret_keepsRest rfl rfl · hrun)

theorem frameOf_reti : FrameOf .reti { sp := true, pc := true, ime := true } :=
  frameOf_of_completed (fun _ => rfl) (fun _ => rfl) (retEnable_keepsRest rfl rfl rfl)

theorem frameOf_bit_mHL (y : Bit3) : FrameOf (.bit y .mHL) { flags := 0xE0 } :=
  frameOf_of_completed (fun _ => by cases y <;> rfl) (exec_bit y .mHL) (bitTest_keepsRest rfl)

/-! ### The forms that store -/

/-- A form stores at the addresses `storesAt` lists, so its frame is left to what its meaning keeps besides memory. -/
theorem storeFrameOf_of_completed {i : Instr} {w : MayWrite} {addrs : State → List Word} {m : State → Result}
    (hstores : ∀ s, storesAt i s = addrs s) (hexec : ∀ s, exec i s = m s)
    (hkeeps : ∀ {s t}, m s = .next t → t.status = .running → KeepsRest w s t) : StoreFrameOf i w addrs :=
  fun s t _ h hrun => ⟨hkeeps ((hexec s).symm.trans h) hrun, hstores s ▸ (exec_storesWithin i s t h).storesOnlyAt⟩

/-- A store of a byte. -/
theorem storeFrameOf_load8 {i : Instr} {dst : Loc8} {src : Src8} {addrs : State → List Word}
    (hdst : ∀ r, dst ≠ .reg r) (hstores : ∀ s, storesAt i s = addrs s) (hexec : ∀ s, exec i s = load8 dst src s) :
    StoreFrameOf i {} addrs :=
  storeFrameOf_of_completed hstores hexec (load8_keepsRest fun r hr => absurd hr (hdst r))

/-- A store of A and a step of HL. -/
theorem storeFrameOf_storeStepHL {i : Instr} {step : Word} (hstores : ∀ s, storesAt i s = [getPair .HL s])
    (hexec : ∀ s, exec i s = storeStepHL step s) : StoreFrameOf i { regs := [.H, .L] } fun s => [getPair .HL s] :=
  storeFrameOf_of_completed hstores hexec (storeStepHL_keepsRest (by simp) (by simp))

theorem storeFrameOf_ld_ma16_SP (a16 : Word) : StoreFrameOf (.ld_ma16_SP a16) {} fun _ => [a16, a16 + 1] :=
  storeFrameOf_of_completed (fun _ => rfl) (fun _ => rfl) storeSP_keepsRest

theorem storeFrameOf_push (q : Rp2) : StoreFrameOf (.push q) { sp := true } fun s => [s.sp - 2, s.sp - 1] :=
  storeFrameOf_of_completed (storesAt_push q) (exec_push q) (pushPair_keepsRest rfl)

theorem storeFrameOf_call (a16 : Word) :
    StoreFrameOf (.call_a16 a16) { sp := true, pc := true } fun s => [s.sp - 2, s.sp - 1] :=
  storeFrameOf_of_completed (fun _ => rfl) (fun _ => rfl) (call_keepsRest rfl rfl)

theorem storeFrameOf_callCond (cc : Cond) (a16 : Word) :
    StoreFrameOf (.callCond cc a16) { sp := true, pc := true } fun s => [s.sp - 2, s.sp - 1] :=
  storeFrameOf_of_completed (storesAt_callCond cc a16) (exec_callCond cc a16) fun h hrun =>
    keepsRest_of_taken h (call_keepsRest rfl rfl · hrun)

theorem storeFrameOf_rst (y : Bit3) :
    StoreFrameOf (.rst y) { sp := true, pc := true } fun s => [s.sp - 2, s.sp - 1] :=
  storeFrameOf_of_completed (storesAt_rst y) (exec_rst y) (call_keepsRest rfl rfl)

section
variable (k : RotOp) (y : Bit3)

theorem storeFrameOf_inc_mHL : StoreFrameOf (.inc .mHL) { flags := 0xE0 } fun s => [getPair .HL s] :=
  storeFrameOf_of_completed storesAt_inc_mHL (exec_inc .mHL) (inc8_keepsRest (by simp [targetLoc]) rfl)

theorem storeFrameOf_dec_mHL : StoreFrameOf (.dec .mHL) { flags := 0xE0 } fun s => [getPair .HL s] :=
  storeFrameOf_of_completed storesAt_dec_mHL (exec_dec .mHL) (dec8_keepsRest (by simp [targetLoc]) rfl)

theorem storeFrameOf_rot_mHL : StoreFrameOf (.rot k .mHL) { flags := 0xF0 } fun s => [getPair .HL s] :=
  storeFrameOf_of_completed (storesAt_rot_mHL k) (exec_rot k .mHL) (rotate_keepsRest (by simp [targetLoc]) rfl)

theorem storeFrameOf_res_mHL : StoreFrameOf (.res y .mHL) {} fun s => [getPair .HL s] :=
  storeFrameOf_of_completed (storesAt_res_mHL y) (exec_res y .mHL) (bitClear_keepsRest (by simp [targetLoc]))

theorem storeFrameOf_set_mHL : StoreFrameOf (.set y .mHL) {} fun s => [getPair .HL s] :=
  storeFrameOf_of_completed (storesAt_set_mHL y) (exec_set y .mHL) (bitSet_keepsRest (by simp [targetLoc]))

end

end Sys2Proof.Machine

open Sys2Proof Sys2Proof.Machine

/-- Settles O55: no form of the list stores, and each is built of reads and of updates of what its frame names. -/
theorem frameOfLoadForms : Obligations.FrameOfLoadForms := by
  exact ⟨frameOf_ldRegMem,
    fun a8 a16 => ⟨frameOf_load8 (fun _ => rfl) fun _ => rfl, frameOf_load8 (fun _ => rfl) fun _ => rfl,
      frameOf_load8 (fun _ => rfl) fun _ => rfl, frameOf_load8 (fun _ => rfl) fun _ => rfl,
      frameOf_load8 (fun _ => rfl) fun _ => rfl⟩,
    ⟨frameOf_loadStepHL (fun _ => rfl) fun _ => rfl, frameOf_loadStepHL (fun _ => rfl) fun _ => rfl⟩,
    ⟨frameOf_pop .BC, frameOf_pop .DE, frameOf_pop .HL, frameOf_pop .AF⟩,
    fun o _ => frameOf_alu_mHL (.inr (by simp)) rfl, frameOf_alu_mHL (.inl rfl) rfl,
    fun cc => ⟨frameOf_ret, frameOf_retCond cc⟩, frameOf_reti, frameOf_bit_mHL⟩

/-- Settles O56: each form stores where `storesAt` says, which is where the list says, and is built besides of updates of
what its frame names. -/
theorem frameOfStoreForms : Obligations.FrameOfStoreForms := by
  have hhigh : ∀ b : Byte, [highPage b] = [wordOfBytes 0xFF b] := fun b => congrArg (fun x => [x]) (highPage_eq b)
  exact ⟨fun r n => ⟨storeFrameOf_load8 (by simp) (storesAt_ldMemReg r) (exec_ldMemReg r),
      storeFrameOf_load8 (dst := .ind .HL) (by simp) (fun _ => rfl) fun _ => rfl⟩,
    storeFrameOf_load8 (dst := .ind .BC) (by simp) (fun _ => rfl) fun _ => rfl,
    storeFrameOf_load8 (dst := .ind .DE) (by simp) (fun _ => rfl) fun _ => rfl,
    ⟨storeFrameOf_storeStepHL (fun _ => rfl) fun _ => rfl, storeFrameOf_storeStepHL (fun _ => rfl) fun _ => rfl⟩,
    fun a8 => storeFrameOf_load8 (dst := .high a8) (by simp) (fun _ => hhigh a8) fun _ => rfl,
    storeFrameOf_load8 (dst := .highC) (by simp) (fun s => hhigh s.c) fun _ => rfl,
    fun a16 => ⟨storeFrameOf_load8 (dst := .abs a16) (by simp) (fun _ => rfl) fun _ => rfl, storeFrameOf_ld_ma16_SP a16⟩,
    storeFrameOf_push, ⟨storeFrameOf_inc_mHL, storeFrameOf_dec_mHL⟩,
    fun cc a16 y => ⟨storeFrameOf_call a16, storeFrameOf_callCond cc a16, storeFrameOf_rst y⟩,
    fun k y => ⟨storeFrameOf_rot_mHL k, storeFrameOf_res_mHL y, storeFrameOf_set_mHL y⟩⟩
end

-- ====
section
/-! PROOFS. Encoding and decoding (30_encoding.md R101, R110 to R117). Every entry of the opcode tables is encoded as the
byte it stands at and its immediates, and every instruction stands in the tables: the first says what bytes mean, both
together that decode reads the encoder's bytes back. -/

open Sys2Proof Sys2Proof.Machine

/-- Settles O3: each decode is one look into the tables. -/
theorem sampleWordsDecode : Obligations.SampleWordsDecode :=
  ⟨rfl, rfl, rfl, rfl, rfl, rfl, rfl, rfl, rfl, rfl, rfl, rfl, rfl, rfl⟩

/-- Settles O4: each of the 256 bytes is looked up. -/
theorem firstByteFixesLength : Obligations.FirstByteFixesLength := ⟨by decide, rfl⟩

namespace Sys2Proof.Machine

/-! ### Every entry is encoded as the byte it stands at -/

/-- What can be asked of an entry at `op` without an immediate: its instruction is encoded as `op` alone, the extended
table is behind 0xCB, and what is no instruction is at an ILLEGAL byte (30_encoding.md R110, R112). -/
def fitsAt (op : Byte) (e : Entry) : Bool :=
  match e with
  | .op i => i.wf && encode i == [op]
  | .imm8 _ => true
  | .imm16 _ => true
  | .cbTable => op == 0xCB
  | .illegal => illegalOpcodes.contains op

theorem primaryEntry_fitsAt : ∀ op, fitsAt op (primaryEntry op) = true := by decide

theorem encode_of_op {op : Byte} {i : Instr} (h : primaryEntry op = .op i) : i.wf = true ∧ encode i = [op] := by
  have hfits := primaryEntry_fitsAt op
  rw [h] at hfits
  simpa [fitsAt] using hfits

theorem eq_cb_of_cbTable {op : Byte} (h : primaryEntry op = .cbTable) : op = 0xCB := by
  have hfits := primaryEntry_fitsAt op
  rw [h] at hfits
  simpa [fitsAt] using hfits

/-- The ILLEGAL bytes are those at which the primary table holds no instruction (30_encoding.md R112). -/
theorem primaryEntry_illegal_iff {op : Byte} : primaryEntry op = .illegal ↔ op ∈ illegalOpcodes := by
  constructor
  · intro h
    have hfits := primaryEntry_fitsAt op
    rw [h] at hfits
    exact List.contains_iff_mem.mp hfits
  · intro h
    unfold illegalOpcodes at h
    fin_cases h <;> rfl

/-- One look at each byte of R115's list of one-byte immediates. -/
theorem encode_of_imm8 {op : Byte} {f : Byte → Instr} (h : primaryEntry op = .imm8 f) (n : Byte) :
    (f n).wf = true ∧ encode (f n) = [op, n] := by
  have hne : op ≠ 0xCB := by rintro rfl; cases h
  have hmem := (firstByteFixesLength.1 op hne).1.1 (by simp [bytesAfter, h])
  fin_cases hmem <;> cases h <;> exact ⟨rfl, rfl⟩

/-- One look at each byte of R115's list of two-byte immediates. -/
theorem encode_of_imm16 {op : Byte} {f : Word → Instr} (h : primaryEntry op = .imm16 f) (n : Word) :
    (f n).wf = true ∧ encode (f n) = [op, lowByte n, highByte n] := by
  have hne : op ≠ 0xCB := by rintro rfl; cases h
  have hmem := (firstByteFixesLength.1 op hne).2.1.1 (by simp [bytesAfter, h])
  fin_cases hmem <;> cases h <;> exact ⟨rfl, rfl⟩

theorem encode_extended : ∀ op2, (extended op2).wf = true ∧ encode (extended op2) = [0xCB, op2] := by decide

end Sys2Proof.Machine

/-- Settles O2: by the branches of decode, each an entry that is encoded as the bytes it took. -/
theorem encodeReadsBackDecode : Obligations.EncodeReadsBackDecode := by
  intro bytes rest i h
  unfold decode at h
  split at h
  · cases h
  · split at h <;> cases h
    case h_1 hop =>
      obtain ⟨hwf, henc⟩ := encode_of_op hop
      exact ⟨hwf, by rw [henc]; rfl⟩
    case h_2 f b1 himm =>
      obtain ⟨hwf, henc⟩ := encode_of_imm8 himm b1
      exact ⟨hwf, by rw [henc]; rfl⟩
    case h_3 f b1 b2 himm =>
      obtain ⟨hwf, henc⟩ := encode_of_imm16 himm (wordOfBytes b2 b1)
      exact ⟨hwf, by simp [henc]⟩
    case h_4 op2 hcb =>
      obtain ⟨hwf, henc⟩ := encode_extended op2
      exact ⟨hwf, by rw [henc, eq_cb_of_cbTable hcb]; rfl⟩
    case h_5 hill => exact ⟨List.contains_iff_mem.mpr (primaryEntry_illegal_iff.mp hill), rfl⟩

namespace Sys2Proof.Machine

/-! ### Every entry is read back -/

/-- Decode reads the encoding of `i` back, whatever follows it. -/
def ReadsBack (i : Instr) : Prop := i.wf = true → ∀ rest, decode (encode i ++ rest) = .ok (i, rest)

/-- A word immediate is put together again from its two bytes (30_encoding.md R101, R108). -/
theorem decode_word {op : Byte} {f : Word → Instr} (h : primaryEntry op = .imm16 f) (n : Word) (rest : List Byte) :
    decode (op :: lowByte n :: highByte n :: rest) = .ok (f n, rest) := by
  simp [decode, h]

theorem readsBack_of_op {op : Byte} {i : Instr} (h : primaryEntry op = .op i) : ReadsBack i := by
  intro _ rest
  simp [decode, (encode_of_op h).2, h]

theorem readsBack_extended (op2 : Byte) : ReadsBack (extended op2) := by
  intro _ rest
  rw [(encode_extended op2).2]
  rfl

theorem readsBack_illegal (op : Byte) : ReadsBack (.illegal op) := by
  intro hwf rest
  change decode (op :: rest) = _
  simp [decode, primaryEntry_illegal_iff.mpr (List.contains_iff_mem.mp hwf)]

/-! ### The large families stand in the tables, in field terms (30_encoding.md R116, R117) -/

theorem primaryEntry_ldRegReg (dst src : Reg8) :
    primaryEntry (0x40 + 8 * dst.code + src.code) = .op (.ldRegReg dst src) := by
  cases dst <;> cases src <;> rfl

theorem primaryEntry_alu (o : AluOp) (t : Target) :
    primaryEntry (0x80 + 8 * o.code + t.code) = .op (.alu o t) := by
  cases t with
  | reg r => cases o <;> cases r <;> rfl
  | mHL => cases o <;> rfl

theorem extended_rot (k : RotOp) (t : Target) : extended (8 * k.code + t.code) = .rot k t := by
  cases t with
  | reg r => cases k <;> cases r <;> rfl
  | mHL => cases k <;> rfl

theorem extended_bit (y : Bit3) (t : Target) : extended (0x40 + 8 * y.code + t.code) = .bit y t := by
  cases t with
  | reg r => cases y <;> cases r <;> rfl
  | mHL => cases y <;> rfl

theorem extended_res (y : Bit3) (t : Target) : extended (0x80 + 8 * y.code + t.code) = .res y t := by
  cases t with
  | reg r => cases y <;> cases r <;> rfl
  | mHL => cases y <;> rfl

theorem extended_set (y : Bit3) (t : Target) : extended (0xC0 + 8 * y.code + t.code) = .set y t := by
  cases t with
  | reg r => cases y <;> cases r <;> rfl
  | mHL => cases y <;> rfl

/-- Every instruction is read back: the large families and ILLEGAL by the lemmas above, the others by one look at the
entry of each. -/
theorem readsBack (i : Instr) : ReadsBack i := by
  revert i
  apply Instr.forall_by_family
  case h_ldRegReg => exact fun dst src => readsBack_of_op (primaryEntry_ldRegReg dst src)
  case h_alu => exact fun o t => readsBack_of_op (primaryEntry_alu o t)
  case h_rot => exact fun k t => extended_rot k t ▸ readsBack_extended _
  case h_bit => exact fun y t => extended_bit y t ▸ readsBack_extended _
  case h_res => exact fun y t => extended_res y t ▸ readsBack_extended _
  case h_set => exact fun y t => extended_set y t ▸ readsBack_extended _
  case h_illegal => exact readsBack_illegal
  case h_inc | h_dec =>
    intro t _ rest
    cases t with
    | reg r => cases r <;> rfl
    | mHL => rfl
  case h_ldPairImm | h_jpCond | h_callCond => intro x n _ rest; cases x <;> exact decode_word rfl n rest
  case h_ld_ma16_SP | h_jp_a16 | h_call_a16 | h_ld_ma16_A | h_ld_A_ma16 => exact fun n _ rest => decode_word rfl n rest
  case h_ldRegImm | h_aluImm | h_jrCond => intro x n _ rest; cases x <;> rfl
  case h_ldRegMem | h_ldMemReg | h_push | h_pop | h_addHL | h_incPair | h_decPair | h_retCond | h_rst =>
    intro x _ rest
    cases x <;> rfl
  case h_stop | h_jr_e8 | h_ld_mHL_d8 | h_ldh_ma8_A | h_ldh_A_ma8 | h_add_SP_e8 | h_ld_HL_SPe8 => exact fun _ _ _ => rfl
  all_goals exact fun _ _ => rfl

end Sys2Proof.Machine

/-- Settles O1: every family of instructions stands in the tables, and every entry is read back. -/
theorem decodeReadsBackEncode : Obligations.DecodeReadsBackEncode := readsBack
end

-- ====
section
/-! PROOFS. The fetch of a step (30_encoding.md R100, R111 to R114): which instruction the bytes at an address decode to
and where each of Decode's faults arises. -/

namespace Sys2Proof.Machine

/-! ### Reading the bytes after the first -/

section
variable {addr : Word} {s : State} {b : Byte}

theorem succ_succ (addr : Word) : addr + 1 + 1 = addr + 2 := by bv_omega

theorem readByte_second (h : readValue (addr + 1) s = .ok b) :
    readByte (addr + 1) (afterReads addr 1 s) = .done b (afterReads addr 2 s) :=
  readByte_of_ok ((readValue_afterRead (succ_ne addr) s).trans h)

theorem readByte_third (h : readValue (addr + 2) s = .ok b) :
    readByte (addr + 2) (afterReads addr 2 s) = .done b (afterReads addr 3 s) := by
  have hne : addr + 2 ≠ addr := by bv_omega
  have hread : readValue (addr + 2) (afterReads addr 2 s) = .ok b := by
    rw [← succ_succ, afterReads, afterReads, afterReads, readValue_afterRead (succ_ne _), succ_succ,
      readValue_afterRead hne, h]
  rw [readByte_of_ok hread, ← succ_succ]
  rfl

theorem readByte_of_not_readable (h : ¬ Readable addr s) : readByte addr s = .raised (.romRangeFault addr) s :=
  readByte_of_error (readValue_of_not_readable h)

theorem readable_afterReads {other : Word} (n : Nat) : Readable addr (afterReads other n s) ↔ Readable addr s := by
  rw [afterReads_eq]
  exact Iff.rfl

end

/-! ### What the fetch answers -/

section
variable {addr : Word} {s : State} {op b1 b2 : Byte}

/-- A byte that encodes no instruction, or that the parameter refuses, is fetched as `illegal`, of no length
(30_encoding.md R112, R113). -/
theorem decodeAt_refused (hop : readValue addr s = .ok op) (h : op ∈ illegalOpcodes ∨ unimplemented op s = true) :
    decodeAt addr s = .done { instr := .illegal op, len := 0, cost := 0 } (afterRead addr s) := by
  rw [decodeAt, readByte_of_ok hop, andThen_done]
  split_ifs with hun
  · rfl
  · rw [primaryEntry_illegal_iff.mpr (h.resolve_right hun)]

theorem decodeAt_not_readable (h : ¬ Readable addr s) : decodeAt addr s = .raised (.romRangeFault addr) s := by
  rw [decodeAt, readByte_of_not_readable h, andThen_raised]

section
variable (hop : readValue addr s = .ok op) (hun : unimplemented op s = false)
include hop hun

theorem decodeAt_op {i : Instr} (he : primaryEntry op = .op i) :
    decodeAt addr s = .done { instr := i, len := 1, cost := cyclesPrimary op s } (afterReads addr 1 s) := by
  simp only [decodeAt, readByte_of_ok hop, andThen_done, hun, he]
  rfl

theorem decodeAt_imm8 {f : Byte → Instr} (he : primaryEntry op = .imm8 f) :
    decodeAt addr s = (readByte (addr + 1) (afterReads addr 1 s)).andThen fun b1 s2 =>
      .done { instr := f b1, len := 2, cost := cyclesPrimary op s } s2 := by
  simp only [decodeAt, readByte_of_ok hop, andThen_done, hun, he]
  rfl

theorem decodeAt_imm16 {f : Word → Instr} (he : primaryEntry op = .imm16 f) :
    decodeAt addr s = (readByte (addr + 1) (afterReads addr 1 s)).andThen fun b1 s2 =>
      (readByte (addr + 2) s2).andThen fun b2 s3 =>
        .done { instr := f (wordOfBytes b2 b1), len := 3, cost := cyclesPrimary op s } s3 := by
  simp only [decodeAt, readByte_of_ok hop, andThen_done, hun, he]
  rfl

theorem decodeAt_cbTable (he : primaryEntry op = .cbTable) :
    decodeAt addr s = (readByte (addr + 1) (afterReads addr 1 s)).andThen fun op2 s2 =>
      .done { instr := extended op2, len := 2, cost := 1 + cyclesCbInner op2 s } s2 := by
  simp only [decodeAt, readByte_of_ok hop, andThen_done, hun, he]
  rfl

/-- The bytes that are there decide the instruction, its length and where the reads end (30_encoding.md R111, R115). -/
theorem decodeAt_of_decode (hlegal : op ∉ illegalOpcodes)
    (hb1 : 1 ≤ bytesAfter op → readValue (addr + 1) s = .ok b1)
    (hb2 : 2 ≤ bytesAfter op → readValue (addr + 2) s = .ok b2) {i : Instr} {rest : List Byte}
    (hdec : decode [op, b1, b2] = .ok (i, rest)) :
    ∃ cost, decodeAt addr s =
      .done { instr := i, len := 1 + bytesAfter op, cost := cost } (afterReads addr (1 + bytesAfter op) s) := by
  cases he : primaryEntry op with
  | illegal => exact absurd (primaryEntry_illegal_iff.mp he) hlegal
  | op j =>
    simp only [decode, bytesAfter, he] at hdec ⊢
    cases hdec
    exact ⟨_, decodeAt_op hop hun he⟩
  | imm8 f =>
    simp only [decode, bytesAfter, he] at hdec hb1 ⊢
    cases hdec
    exact ⟨_, by rw [decodeAt_imm8 hop hun he, readByte_second (hb1 (by decide)), andThen_done]⟩
  | imm16 f =>
    simp only [decode, bytesAfter, he] at hdec hb1 hb2 ⊢
    cases hdec
    exact ⟨_, by rw [decodeAt_imm16 hop hun he, readByte_second (hb1 (by decide)), andThen_done,
      readByte_third (hb2 (by decide)), andThen_done]⟩
  | cbTable =>
    simp only [decode, bytesAfter, he] at hdec hb1 ⊢
    cases hdec
    exact ⟨_, by rw [decodeAt_cbTable hop hun he, readByte_second (hb1 (by decide)), andThen_done]⟩

theorem decodeAt_second_not_readable (hlen : 1 ≤ bytesAfter op) (h : ¬ Readable (addr + 1) s) :
    decodeAt addr s = .raised (.romRangeFault (addr + 1)) (afterReads addr 1 s) := by
  have hsecond : readByte (addr + 1) (afterReads addr 1 s) = .raised (.romRangeFault (addr + 1)) (afterReads addr 1 s) :=
    readByte_of_not_readable (mt (readable_afterReads 1).mp h)
  cases he : primaryEntry op with
  | op i => simp [bytesAfter, he] at hlen
  | illegal => simp [bytesAfter, he] at hlen
  | imm8 f => rw [decodeAt_imm8 hop hun he, hsecond, andThen_raised]
  | imm16 f => rw [decodeAt_imm16 hop hun he, hsecond, andThen_raised]
  | cbTable => rw [decodeAt_cbTable hop hun he, hsecond, andThen_raised]

theorem decodeAt_third_not_readable (hlen : bytesAfter op = 2) (hb1 : readValue (addr + 1) s = .ok b1)
    (h : ¬ Readable (addr + 2) s) :
    decodeAt addr s = .raised (.romRangeFault (addr + 2)) (afterReads addr 2 s) := by
  have hthird : readByte (addr + 2) (afterReads addr 2 s) = .raised (.romRangeFault (addr + 2)) (afterReads addr 2 s) :=
    readByte_of_not_readable (mt (readable_afterReads 2).mp h)
  cases he : primaryEntry op with
  | imm16 f =>
    rw [decodeAt_imm16 hop hun he, readByte_second hb1, andThen_done, hthird, andThen_raised]
  | _ => simp [bytesAfter, he] at hlen

end

end

/-! ### The step from what the fetch answers -/

@[simp] theorem advance_zero (s : State) : advance 0 s = s := by
  rw [advance_eq, BitVec.add_zero]

theorem step_eq_afterFetch {s : State} (hs : Running s) : step s = afterFetch (decodeAt s.pc s) :=
  step_of_running hs.1 hs.2

theorem exec_of_illegal (op : Byte) (s : State) : exec (.illegal op) s = .next (enterFault (.decodeFault s.pc op) s) :=
  rfl

/-- A fault of Decode ends the step with PC at the instruction (60_exceptions.md R320). -/
theorem step_of_decodeAt_raised {s u : State} {f : FaultRecord} (hs : Running s) (h : decodeAt s.pc s = .raised f u) :
    step s = .next (enterFault f u) := by
  rw [step_eq_afterFetch hs, h, afterFetch]

/-- What Decode answers is executed with PC past its bytes (30_encoding.md R100). -/
theorem step_of_decodeAt_done {s : State} {n : Nat} {d : Fetched} (hs : Running s)
    (h : decodeAt s.pc s = .done d (afterReads s.pc n s)) :
    step s = exec d.instr { afterReads s.pc n s with pc := s.pc + BitVec.ofNat 16 d.len } := by
  rw [step_eq_afterFetch hs, h, afterFetch, advance_eq, afterReads_pc]

end Sys2Proof.Machine

open Sys2Proof Sys2Proof.Machine

/-- Settles O10: halted, the state itself; else the fetch ends in its fault, or `exec` runs, which always answers. -/
theorem runningStepAlwaysAnswersNext : Obligations.RunningStepAlwaysAnswersNext := by
  intro s hrun
  cases hhalt : s.halted with
  | true => exact ⟨s, step_of_halted hrun hhalt⟩
  | false =>
    rw [step_of_running hrun hhalt]
    cases fetch s with
    | raised f u => exact ⟨_, rfl⟩
    | done d u => exact exec_next d.instr _

/-- Settles O5: the fetch answers the decoded instruction and its length. -/
theorem stepRunsDecodedInstruction : Obligations.StepRunsDecodedInstruction := by
  intro s op b1 b2 i rest hs hop hun hlegal hb1 hb2 hdec
  obtain ⟨cost, hfetch⟩ := decodeAt_of_decode hop (unimplemented_eq_false.mpr hun) hlegal hb1 hb2 hdec
  exact step_of_decodeAt_done hs hfetch

/-- Settles O6: one clause for each way the fetch goes wrong, and one for 0xCB, which is never refused. -/
theorem decodeFaultsLeavePC : Obligations.DecodeFaultsLeavePC := by
  refine ⟨?_, ?_, ?_, ?_, ?_⟩
  · intro s op hs hop hrefused
    have hfetch := decodeAt_refused hop (hrefused.imp_right unimplemented_eq_true.mpr)
    rw [step_eq_afterFetch hs, hfetch, afterFetch, advance_zero, exec_of_illegal, afterRead_pc]
  · intro s op2 i hs hop hop2 hdec
    cases hdec
    obtain ⟨cost, hfetch⟩ := decodeAt_of_decode (b2 := 0x00) hop (unimplemented_eq_false.mpr (.inl rfl)) (by decide)
      (fun _ => hop2) (fun h => absurd h (by decide)) rfl
    exact step_of_decodeAt_done hs hfetch
  · intro s hs h
    exact step_of_decodeAt_raised hs (decodeAt_not_readable h)
  · intro s op hs hop hun hlen h
    exact step_of_decodeAt_raised hs (decodeAt_second_not_readable hop (unimplemented_eq_false.mpr hun) hlen h)
  · intro s op hs hop hun hlen hsecond h
    obtain ⟨b1, hb1⟩ := readValue_of_readable hsecond
    exact step_of_decodeAt_raised hs (decodeAt_third_not_readable hop (unimplemented_eq_false.mpr hun) hlen hb1 h)
end

-- ====
section
/-! PROOFS. 8-bit loads and stores (40_load8.md R140 to R158): how each form is encoded, and what its meaning, `load8` or
one of the two that step HL, answers. -/

namespace Sys2Proof.Machine

/-! ### The encodings, in field terms -/

section
variable (d r : Reg8)

theorem encode_ldRegReg : encode (.ldRegReg d r) = [0x40 ||| d.code <<< 3 ||| r.code] := by
  cases d <;> cases r <;> rfl

theorem encode_ldRegImm (n : Byte) : encode (.ldRegImm d n) = [0x06 ||| d.code <<< 3, n] := by cases d <;> rfl

theorem encode_ldRegMem : encode (.ldRegMem d) = [0x46 ||| d.code <<< 3] := by cases d <;> rfl

theorem encode_ldMemReg : encode (.ldMemReg r) = [0x70 ||| r.code] := by cases r <;> rfl

end

/-! ### The high page -/

theorem wordOfBytes_FF_ge (b : Byte) : 0x8000 ≤ (wordOfBytes 0xFF b).toNat := by
  rw [← highPage_eq, highPage_toNat]
  omega

theorem locAddr_high (b : Byte) (s : State) : locAddr (.high b) s = some (wordOfBytes 0xFF b) :=
  congrArg some (highPage_eq b)

theorem locAddr_highC (s : State) : locAddr .highC s = some (wordOfBytes 0xFF s.c) := locAddr_high s.c s

/-! ### What the shared meanings answer -/

/-- A load of a register that reads no memory. -/
theorem load8_setReg (d : Reg8) {src : Src8} {v : Byte} {s : State} (hv : readSrc src s = .done v s) :
    load8 (.reg d) src s = .next (setReg d v s) := by
  rw [load8, hv, andThen_done, writeLoc, finish_done]

/-- A read moves at most the draw counter. -/
theorem getPair_HL_afterRead (addr : Word) (s : State) : getPair .HL (afterRead addr s) = getPair .HL s := by
  rw [afterRead_eq]
  rfl

/-- A store writes no register. -/
theorem getPair_HL_writeByte {addr : Word} {v : Byte} {s t : State} (h : writeByte addr v s = .done () t) :
    getPair .HL t = getPair .HL s := by
  rw [writeByte_keeps h]
  rfl

section
variable {s : State} (step : Word)

/-- The store is at the old HL, and HL is stepped from there (40_load8.md R149, R151). -/
theorem storeStepHL_of_done {t : State} (h : writeByte (getPair .HL s) s.a s = .done () t) :
    storeStepHL step s = .next (setPair .HL (getPair .HL s + step) t) := by
  rw [storeStepHL, h, andThen_done, getPair_HL_writeByte h, finish_done]

/-- The write-fault ends the step before HL is stepped (40_load8.md R149, R151). -/
theorem storeStepHL_of_not_writable (h : ¬ Writable (getPair .HL s)) :
    storeStepHL step s = .next (enterFault (.mapperConfigFault (getPair .HL s) s.a) s) := by
  rw [storeStepHL, writeByte_of_not_writable h, andThen_raised, finish_raised]

/-- The load is from the old HL, and HL is stepped from there (40_load8.md R150, R152). -/
theorem loadStepHL_of_ok {v : Byte} (h : readValue (getPair .HL s) s = .ok v) :
    loadStepHL step s =
      .next (setPair .HL (getPair .HL s + step) { afterRead (getPair .HL s) s with a := v }) := by
  rw [loadStepHL, readByte_of_ok h, andThen_done, getPair_HL_afterRead, finish_done]

/-- The read-fault ends the step before HL is stepped (40_load8.md R150, R152). -/
theorem loadStepHL_of_not_readable (h : ¬ Readable (getPair .HL s) s) :
    loadStepHL step s = .next (enterFault (.romRangeFault (getPair .HL s)) s) :=
  finish_readByte_of_not_readable h _

end

end Sys2Proof.Machine

open Sys2Proof Sys2Proof.Machine

/-- Settles O31: the source is a register or the byte itself, the destination a register. -/
theorem registerAndImmediateLoads : Obligations.RegisterAndImmediateLoads := fun d r n s =>
  ⟨⟨encode_ldRegReg d r, (exec_ldRegReg d r s).trans (load8_setReg d rfl)⟩,
    ⟨encode_ldRegImm d n, (exec_ldRegImm d n s).trans (load8_setReg d rfl)⟩⟩

/-- Settles O32: each form is `load8` of a register from the memory operand at its address. -/
theorem loadsFromMemory : Obligations.LoadsFromMemory := by
  intro d a8 a16 s
  refine ⟨⟨encode_ldRegMem d, ?_⟩, ⟨rfl, load8_loads .A (l := .ind .BC) rfl⟩,
    ⟨rfl, load8_loads .A (l := .ind .DE) rfl⟩,
    ⟨rfl, readable_of_ge (wordOfBytes_FF_ge a8), load8_loads .A (locAddr_high a8 s)⟩,
    ⟨rfl, readable_of_ge (wordOfBytes_FF_ge s.c), load8_loads .A (locAddr_highC s)⟩,
    ⟨rfl, load8_loads .A (l := .abs a16) rfl⟩⟩
  rw [exec_ldRegMem]
  exact load8_loads d rfl

/-- Settles O33: each form is `load8` of the memory operand at its address from a register or an immediate. -/
theorem storesToMemory : Obligations.StoresToMemory := by
  intro r n a8 a16 s
  have hA : readSrc (.loc (.reg .A)) s = .done s.a s := rfl
  refine ⟨⟨encode_ldMemReg r, ?_⟩, ⟨rfl, load8_stores (l := .ind .HL) (src := .imm n) rfl rfl⟩,
    ⟨rfl, load8_stores (l := .ind .BC) rfl hA⟩, ⟨rfl, load8_stores (l := .ind .DE) rfl hA⟩,
    ⟨rfl, writable_of_ge (wordOfBytes_FF_ge a8), load8_stores (locAddr_high a8 s) hA⟩,
    ⟨rfl, writable_of_ge (wordOfBytes_FF_ge s.c), load8_stores (locAddr_highC s) hA⟩,
    ⟨rfl, load8_stores (l := .abs a16) rfl hA⟩⟩
  rw [exec_ldMemReg]
  exact load8_stores rfl rfl

/-- Settles O34: each form is `storeStepHL` or `loadStepHL` with the step 1 or -1. -/
theorem loadsAndStoresThatStepHL : Obligations.LoadsAndStoresThatStepHL := by
  rintro s hl rfl
  rw [BitVec.sub_eq_add_neg]
  refine ⟨⟨rfl, rfl, rfl, rfl⟩, fun h => ?_, fun h => ?_, fun h => ?_, fun h => ?_⟩
  · obtain ⟨t, ht⟩ := writeByte_of_writable h s.a s
    exact ⟨t, ht, storeStepHL_of_done 1 ht, storeStepHL_of_done (-1) ht⟩
  · exact ⟨storeStepHL_of_not_writable 1 h, storeStepHL_of_not_writable (-1) h⟩
  · obtain ⟨v, hv⟩ := readValue_of_readable h
    exact ⟨v, hv, loadStepHL_of_ok 1 hv, loadStepHL_of_ok (-1) hv⟩
  · exact ⟨loadStepHL_of_not_readable 1 h, loadStepHL_of_not_readable (-1) h⟩
end

-- ====
section
/-! PROOFS. 16-bit loads and the stack (41_load16_stack.md R170 to R176): what PUSH and POP answer, and that a word stored
in storage is read back whole, by which POP undoes PUSH. -/

namespace Sys2Proof.Machine

/-! ### The encodings, in field terms -/

theorem encode_ldPairImm (p : Rp) (n : Word) :
    encode (.ldPairImm p n) = [0x01 ||| p.code <<< 4, lowByte n, highByte n] := by cases p <;> rfl

theorem encode_push (q : Rp2) : encode (.push q) = [0xC5 ||| q.code <<< 4] := by cases q <;> rfl

theorem encode_pop (q : Rp2) : encode (.pop q) = [0xC1 ||| q.code <<< 4] := by cases q <;> rfl

/-! ### What PUSH and POP answer -/

theorem storesWord_exec_push (q : Rp2) (s : State) :
    StoresWord (exec (.push q) s) (s.sp - 2) (getPair q.pair s) { s with sp := s.sp - 2 } id := by
  rw [exec_push]
  exact storesWord_of_write' (s.sp - 2) (getPair q.pair s) { s with sp := s.sp - 2 }

theorem loadsWord_exec_pop (q : Rp2) (s : State) :
    LoadsWord (exec (.pop q) s) s.sp s fun v t => setPair q.pair v { t with sp := s.sp + 2 } := by
  rw [exec_pop]
  exact loadsWord_of_pop s (setPair q.pair)

/-- POP where both bytes are known. -/
theorem exec_pop_of_ok (q : Rp2) {s : State} {lo hi : Byte} (hlo : readValue s.sp s = .ok lo)
    (hhi : readValue (s.sp + 1) s = .ok hi) :
    exec (.pop q) s = .next (setPair q.pair (wordOfBytes hi lo) { afterReads s.sp 2 s with sp := s.sp + 2 }) := by
  obtain ⟨lo', hi', hlo', hhi', hpop⟩ :=
    (loadsWord_exec_pop q s).1 (readValue_isOk_iff.1 ⟨lo, hlo⟩) (readValue_isOk_iff.1 ⟨hi, hhi⟩)
  cases hlo.symm.trans hlo'
  cases hhi.symm.trans hhi'
  exact hpop

/-! ### A word in storage -/

section
variable {x : Word} {s : State}

theorem Stored.ge (h : Stored x s) : 0xA000 ≤ x.toNat := by
  rcases h with ⟨hlo, _⟩ | ⟨hlo, _⟩ | ⟨hlo, _⟩ <;> omega

theorem Stored.writable (h : Stored x s) : Writable x := fun hlt => absurd h.ge (by omega)

/-- The two bytes of a word are two bytes of memory, also through the echo (R65). -/
theorem not_sameByte_succ (x : Word) : ¬ SameByte (x + 1) x := by
  rintro (hsame | ⟨_, _, hlo, hhi, hmod⟩)
  · exact succ_ne x hsame
  · have hsucc : (x + 1).toNat = x.toNat + 1 := by bv_omega
    omega

/-- A word stored in storage is read back, both its bytes. -/
theorem readValue_of_stored_word {v : Word} {s1 t : State} (hs : Arrays s) (hlo : Stored x s) (hhi : Stored (x + 1) s)
    (h1 : writeByte x (lowByte v) s = .done () s1) (h2 : writeByte (x + 1) (highByte v) s1 = .done () t) :
    readValue x t = .ok (lowByte v) ∧ readValue (x + 1) t = .ok (highByte v) := by
  have hparams : s1.params = s.params := by rw [writeByte_keeps h1]
  have hhi1 : Stored (x + 1) s1 := by rwa [Stored, hparams]
  have hbank : ¬ SeenThroughBank (x + 1) x := fun ⟨_, _, hrom⟩ => absurd hlo.ge (by omega)
  exact ⟨(readValue_writeByte_other h2 (not_sameByte_succ x) hbank).trans (readValue_writeByte_self hs hlo h1),
    readValue_writeByte_self (writeByte_arrays h1 hs) hhi1 h2⟩

end

/-! ### PUSH and then POP -/

/-- Writing a pair with what it reads changes nothing; for AF because F's low nibble is 0 (10_state.md R21). -/
theorem setPair_eq_self {rr : Reg16} {v : Word} {s : State} (hv : v = getPair rr s) (hf : s.f &&& 0x0F = 0x00) :
    setPair rr v s = s := by
  subst hv
  cases rr with
  | AF =>
    have hmask : ∀ f : Byte, f &&& 0x0F = 0x00 → f &&& 0xF0 &&& 0xF0 = f := by decide
    simp only [getPair, setPair, setF, getF, highByte_wordOfBytes, lowByte_wordOfBytes, hmask s.f hf]
  | SP => rfl
  | _ => simp only [getPair, setPair, highByte_wordOfBytes, lowByte_wordOfBytes]

/-- After the two writes of a PUSH, what a POP leaves but for its pair: SP is back, and every register is as it was. -/
theorem popped_state_eq {s s1 t : State} {x y : Word} {lo hi : Byte}
    (h1 : writeByte x lo { s with sp := s.sp - 2 } = .done () s1) (h2 : writeByte y hi s1 = .done () t) :
    { afterReads t.sp 2 t with sp := t.sp + 2 } = { s with
      ie := t.ie, hram := t.hram, wram := t.wram, cartRam := t.cartRam, romBank := t.romBank
      mapperMode := t.mapperMode, serialLine := t.serialLine, serialOut := t.serialOut
      draws := (afterReads t.sp 2 t).draws } := by
  have hsp : t.sp + 2 = s.sp := by
    rw [writeByte_keeps h2, writeByte_keeps h1]
    exact BitVec.sub_add_cancel s.sp 2
  rw [hsp, afterReads_eq, writeByte_keeps h2, writeByte_keeps h1]

end Sys2Proof.Machine

open Sys2Proof Sys2Proof.Machine

/-- Settles O37: POP reads the word PUSH stored, and writes each pair with what it already holds. -/
theorem pushThenPopRestores : Obligations.PushThenPopRestores := by
  rintro q s ⟨hf, _, harrays⟩ hlo hhi
  rw [← sp_sub_two_add_one] at hhi
  obtain ⟨s1, t, h1, h2, hpush⟩ := (storesWord_exec_push q s).1 hlo.writable hhi.writable
  have hsp : t.sp = s.sp - 2 := by rw [writeByte_keeps h2, writeByte_keeps h1]
  obtain ⟨hreadlo, hreadhi⟩ := readValue_of_stored_word (s := { s with sp := s.sp - 2 }) harrays hlo hhi h1 h2
  rw [← hsp] at hreadlo hreadhi
  have hpop := exec_pop_of_ok q hreadlo hreadhi
  rw [wordOfBytes_bytes, popped_state_eq h1 h2] at hpop
  have hrestored := hpop.trans (congrArg _ (setPair_eq_self (by cases q <;> rfl) hf))
  exact ⟨t, _, hpush, hsp, hrestored, rfl, fun r => by cases r <;> rfl, rfl⟩

/-- Settles O35: both forms write a pair, or SP, and nothing else. -/
theorem sixteenBitLoads : Obligations.SixteenBitLoads := fun p n s =>
  ⟨⟨encode_ldPairImm p n, exec_ldPairImm p n s⟩, ⟨rfl, rfl⟩⟩

/-- Settles O36: each of the three stores or loads one word, PUSH from the state whose SP is already decremented. -/
theorem storeSPAndPushAndPop : Obligations.StoreSPAndPushAndPop := fun n q s =>
  ⟨⟨rfl, storesWord_of_write' n s.sp s⟩, ⟨encode_push q, storesWord_exec_push q s⟩,
    ⟨encode_pop q, loadsWord_exec_pop q s⟩⟩
end

-- ====
section
/-! PROOFS. 8-bit arithmetic and logic (42_alu8.md R190 to R205): the sums and differences of R191 as numbers, what the
accumulator operations, INC, DEC and DAA answer in those terms, and that DAA makes the result of ADD and SUB decimal. -/

namespace Sys2Proof.Machine

/-! ### The encodings, in field terms -/

theorem encode_alu (o : AluOp) (t : Target) : encode (.alu o t) = [0x80 ||| o.code <<< 3 ||| t.code] := by
  cases t with
  | reg r => cases o <;> cases r <;> rfl
  | mHL => cases o <;> rfl

theorem encode_aluImm (o : AluOp) (n : Byte) : encode (.aluImm o n) = [0xC6 ||| o.code <<< 3, n] := by cases o <;> rfl

theorem encode_inc (t : Target) : encode (.inc t) = [0x04 ||| t.code <<< 3] := by
  cases t with
  | reg r => cases r <;> rfl
  | mHL => rfl

theorem encode_dec (t : Target) : encode (.dec t) = [0x05 ||| t.code <<< 3] := by
  cases t with
  | reg r => cases r <;> rfl
  | mHL => rfl

/-! ### The flag functions, as numbers (42_alu8.md R191) -/

theorem toNat_and_low_nibble (v : Byte) : (v &&& 0x0F).toNat = v.toNat % 16 := by
  rw [BitVec.toNat_and]
  exact Nat.and_two_pow_sub_one_eq_mod v.toNat 4

theorem carryByte_toNat (c : Bool) : (carryByte c).toNat = if c then 1 else 0 := by cases c <;> rfl

/-- Z of a byte that is given as a number. -/
theorem ofNat_beq_zero (n : Nat) : (BitVec.ofNat 8 n == 0) = decide (n % 256 = 0) := by
  rw [Bool.eq_iff_iff, beq_iff_eq, decide_eq_true_eq, ← BitVec.toNat_inj, BitVec.toNat_ofNat]
  rfl

theorem add8_eq (a b : Byte) (c : Bool) : add8 a b c =
    { res := BitVec.ofNat 8 (a.toNat + b.toNat + if c then 1 else 0)
      half := decide (a.toNat % 16 + b.toNat % 16 + (if c then 1 else 0) > 15)
      carry := decide (a.toNat + b.toNat + (if c then 1 else 0) > 255) } := by
  have hres : a + b + carryByte c = BitVec.ofNat 8 (a.toNat + b.toNat + if c then 1 else 0) := by
    rw [← carryByte_toNat, BitVec.ofNat_add, BitVec.ofNat_add]
    simp only [BitVec.ofNat_toNat, BitVec.setWidth_eq]
  rw [add8, hres, toNat_and_low_nibble, toNat_and_low_nibble, carryByte_toNat]

/-- The difference is taken from 512 above it, so that it is a natural number. -/
theorem sub8_eq (a b : Byte) (c : Bool) : sub8 a b c =
    { res := BitVec.ofNat 8 (512 + a.toNat - b.toNat - if c then 1 else 0)
      half := decide (a.toNat % 16 < b.toNat % 16 + if c then 1 else 0)
      carry := decide (a.toNat < b.toNat + if c then 1 else 0) } := by
  have hres : a - b - carryByte c = BitVec.ofNat 8 (512 + a.toNat - b.toNat - if c then 1 else 0) := by
    rw [← carryByte_toNat]
    have hc : (carryByte c).toNat ≤ 1 := by rw [carryByte_toNat]; split <;> decide
    bv_omega
  rw [sub8, hres, toNat_and_low_nibble, toNat_and_low_nibble, carryByte_toNat]

theorem incHalf_eq (old : Byte) : incHalf old = decide (old.toNat % 16 = 15) := by
  rw [incHalf, ← toNat_and_low_nibble]
  exact decide_eq_decide.mpr BitVec.toNat_inj.symm

theorem decHalf_eq (old : Byte) : decHalf old = decide (old.toNat % 16 = 0) := by
  rw [decHalf, ← toNat_and_low_nibble]
  exact decide_eq_decide.mpr BitVec.toNat_inj.symm

/-- An increment wraps to 0 from 0xFF alone. -/
theorem add_one_beq_zero (old : Byte) : (old + 1 == 0) = decide (old.toNat = 0xFF) := by
  rw [Bool.eq_iff_iff, beq_iff_eq, decide_eq_true_eq]
  bv_omega

/-- A decrement reaches 0 from 1 alone. -/
theorem sub_one_beq_zero (old : Byte) : (old - 1 == 0) = decide (old.toNat = 0x01) := by
  rw [Bool.eq_iff_iff, beq_iff_eq, decide_eq_true_eq]
  bv_omega

/-! ### The accumulator operations -/

/-- An immediate source is read without an access. -/
theorem exec_aluImm_next (o : AluOp) (n : Byte) (s : State) : exec (.aluImm o n) s = .next (accumulate o n s) := by
  rw [exec_aluImm, aluA, readSrc, andThen_done, finish_done]

/-- One Get and then `post`, where the Get has moved at most the draw counter. -/
theorem GetsTarget.congr {r : Result} {t : Target} {s : State} {post post' : Byte → State → State}
    (h : GetsTarget r t s post) (hpost : ∀ v k, post v { s with draws := k } = post' v { s with draws := k }) :
    GetsTarget r t s post' := by
  refine ⟨fun hread => ?_, h.2⟩
  obtain ⟨v, s1, hgives, hr⟩ := h.1 hread
  refine ⟨v, s1, hgives, hr.trans (congrArg _ ?_)⟩
  rw [hgives.eq]
  exact hpost v s1.draws

/-- The four things said of an accumulator operation that does `res` with its operand (R190): its two encodings, and what
it answers on a register or (HL) and on d8. -/
theorem alu_of_accumulate {o : AluOp} {s : State} {res : Byte → State → State} (t : Target) (n : Byte)
    (h : ∀ v k, accumulate o v { s with draws := k } = res v { s with draws := k }) :
    encode (.alu o t) = [0x80 ||| o.code <<< 3 ||| t.code] ∧ encode (.aluImm o n) = [0xC6 ||| o.code <<< 3, n] ∧
      GetsTarget (exec (.alu o t) s) t s res ∧ exec (.aluImm o n) s = .next (res n s) := by
  refine ⟨encode_alu o t, encode_aluImm o n, ?_, (exec_aluImm_next o n s).trans (congrArg _ (h n s.draws))⟩
  rw [exec_alu]
  exact (getsTarget_of_read t s (accumulate o)).congr h

/-- ADD and ADC, `c` being the carry-in (R192, R193). -/
theorem accumulate_of_add {o : AluOp} {s : State} {c : Nat}
    (h : o = .ADD ∧ c = 0 ∨ o = .ADC ∧ c = if s.f.getLsbD 4 then 1 else 0) (v : Byte) :
    accumulate o v s = { s with
      a := BitVec.ofNat 8 (s.a.toNat + v.toNat + c)
      f := flagByte (decide ((s.a.toNat + v.toNat + c) % 256 = 0)) false
        (decide (s.a.toNat % 16 + v.toNat % 16 + c > 15)) (decide (s.a.toNat + v.toNat + c > 255)) } := by
  obtain ⟨rfl, rfl⟩ | ⟨rfl, rfl⟩ := h
  · simp only [accumulate, add8_eq, ofNat_beq_zero]
    rfl
  · simp only [accumulate, add8_eq, ofNat_beq_zero, flagC]

/-- SUB, SBC and CP, `c` being the borrow-in; CP keeps A (R194, R195, R199). -/
theorem accumulate_of_sub {o : AluOp} {s : State} {c : Nat}
    (h : o = .SUB ∧ c = 0 ∨ o = .SBC ∧ c = (if s.f.getLsbD 4 then 1 else 0) ∨ o = .CP ∧ c = 0) (v : Byte) :
    accumulate o v s = { s with
      a := if o = .CP then s.a else BitVec.ofNat 8 (512 + s.a.toNat - v.toNat - c)
      f := flagByte (decide ((512 + s.a.toNat - v.toNat - c) % 256 = 0)) true
        (decide (s.a.toNat % 16 < v.toNat % 16 + c)) (decide (s.a.toNat < v.toNat + c)) } := by
  obtain ⟨rfl, rfl⟩ | ⟨rfl, rfl⟩ | ⟨rfl, rfl⟩ := h
  · simp only [accumulate, sub8_eq, ofNat_beq_zero]
    rfl
  · simp only [accumulate, sub8_eq, ofNat_beq_zero, flagC]
    rfl
  · simp only [accumulate, sub8_eq, ofNat_beq_zero]
    rfl

/-! ### INC and DEC -/

/-- A Put on a target leaves F alone. -/
theorem TargetTakes.f_eq {t : Target} {v : Byte} {s s1 : State} (h : TargetTakes t v s s1) : s1.f = s.f := by
  cases t with
  | reg r => exact writeLoc_f (l := .reg r) (congrArg (Access.done ()) h.symm)
  | mHL => exact writeLoc_f (l := .ind .HL) h

/-- One Get, one Put and then `post`, where F is still as it was before the Get. -/
theorem UpdatesTarget.congr {r : Result} {t : Target} {s : State} {res : Byte → Byte} {post post' : Byte → State → State}
    (h : UpdatesTarget r t s res post) (hpost : ∀ v s2, s2.f = s.f → post v s2 = post' v s2) :
    UpdatesTarget r t s res post' := by
  refine ⟨fun hread hwrite => ?_, h.2⟩
  obtain ⟨v, s1, s2, hgives, htakes, hr⟩ := h.1 hread hwrite
  have hf : s2.f = s.f := by rw [htakes.f_eq, hgives.eq]
  exact ⟨v, s1, s2, hgives, htakes, hr.trans (congrArg _ (hpost v s2 hf))⟩

/-! ### DAA -/

/-- The two corrections have no bit in common (R204). -/
theorem daaCorrection_eq (a : Byte) (n h c : Bool) : daaCorrection a n h c =
    (if daaLow a n h then 0x06 else 0x00) + (if daaHigh a n c then 0x60 else 0x00) := by
  rw [daaCorrection]
  cases daaLow a n h <;> cases daaHigh a n c <;> rfl

theorem daaCorrection_toNat (a : Byte) (n h c : Bool) : (daaCorrection a n h c).toNat =
    (if daaLow a n h then 6 else 0) + (if daaHigh a n c then 96 else 0) := by
  rw [daaCorrection_eq]
  cases daaLow a n h <;> cases daaHigh a n c <;> rfl

theorem daaLow_eq_true_iff {a : Byte} {n h : Bool} : daaLow a n h = true ↔ h = true ∨ n = false ∧ a.toNat % 16 > 9 := by
  rw [daaLow, toNat_and_low_nibble]
  simp

theorem daaHigh_eq_true_iff {a : Byte} {n c : Bool} : daaHigh a n c = true ↔ c = true ∨ n = false ∧ a.toNat > 0x99 := by
  simp [daaHigh]

/-- After an addition the correction of each digit is decided by the exact sums, of the low digits and of the bytes. -/
theorem daaLow_add8 (a b : Byte) : daaLow (add8 a b false).res false (add8 a b false).half =
    decide (a.toNat % 16 + b.toNat % 16 > 9) := by
  rw [Bool.eq_iff_iff, daaLow_eq_true_iff, add8_eq]
  simp only [decide_eq_true_eq, BitVec.toNat_ofNat, Bool.false_eq_true, if_false, true_and]
  omega

theorem daaHigh_add8 (a b : Byte) : daaHigh (add8 a b false).res false (add8 a b false).carry =
    decide (a.toNat + b.toNat > 0x99) := by
  rw [Bool.eq_iff_iff, daaHigh_eq_true_iff, add8_eq]
  simp only [decide_eq_true_eq, BitVec.toNat_ofNat, Bool.false_eq_true, if_false, true_and]
  omega

/-- After a subtraction the correction of each digit is its borrow. -/
theorem daaLow_of_sub (a : Byte) (h : Bool) : daaLow a true h = h := by simp [daaLow]

theorem daaHigh_of_sub (a : Byte) (c : Bool) : daaHigh a true c = c := by simp [daaHigh]

/-- Two decimal digits as a byte, one in each nibble. -/
def bcdByte (k : Nat) : Byte := BitVec.ofNat 8 (k / 10 * 16 + k % 10)

theorem bcdByte_toNat {k : Nat} (h : k < 100) : (bcdByte k).toNat = k / 10 * 16 + k % 10 := by
  rw [bcdByte, BitVec.toNat_ofNat]
  omega

section
variable {x y : Nat} (hx : x < 100) (hy : y < 100)
include hx hy

/-- The bytes' sum passes 0x99 exactly when the decimal sum passes 99. -/
theorem daaHigh_add_bcd : daaHigh (add8 (bcdByte x) (bcdByte y) false).res false
    (add8 (bcdByte x) (bcdByte y) false).carry = decide (x + y ≥ 100) := by
  rw [daaHigh_add8, bcdByte_toNat hx, bcdByte_toNat hy]
  exact decide_eq_decide.mpr (by omega)

theorem daaResult_add_bcd : daaResult (add8 (bcdByte x) (bcdByte y) false).res false
    (add8 (bcdByte x) (bcdByte y) false).half (add8 (bcdByte x) (bcdByte y) false).carry = bcdByte ((x + y) % 100) := by
  apply BitVec.eq_of_toNat_eq
  rw [daaResult, if_neg Bool.false_ne_true, BitVec.toNat_add, daaCorrection_toNat, daaLow_add8, daaHigh_add_bcd hx hy,
    add8_eq, bcdByte_toNat hx, bcdByte_toNat hy, bcdByte_toNat (Nat.mod_lt _ (by decide)), BitVec.toNat_ofNat]
  simp only [decide_eq_true_eq, Bool.false_eq_true, if_false]
  split_ifs <;> omega

theorem carry_sub_bcd : (sub8 (bcdByte x) (bcdByte y) false).carry = decide (x < y) := by
  rw [sub8_eq, bcdByte_toNat hx, bcdByte_toNat hy]
  simp only [Bool.false_eq_true, if_false, Nat.add_zero]
  exact decide_eq_decide.mpr (by omega)

theorem daaResult_sub_bcd : daaResult (sub8 (bcdByte x) (bcdByte y) false).res true
    (sub8 (bcdByte x) (bcdByte y) false).half (sub8 (bcdByte x) (bcdByte y) false).carry =
      bcdByte ((x + 100 - y) % 100) := by
  apply BitVec.eq_of_toNat_eq
  rw [daaResult, if_pos rfl, BitVec.toNat_sub, daaCorrection_toNat, daaLow_of_sub, daaHigh_of_sub, carry_sub_bcd hx hy,
    sub8_eq, bcdByte_toNat hx, bcdByte_toNat hy, bcdByte_toNat (Nat.mod_lt _ (by decide)), BitVec.toNat_ofNat]
  simp only [decide_eq_true_eq, Bool.false_eq_true, if_false]
  split_ifs <;> omega

end

/-- DAA where the four flags are known. -/
theorem decimalAdjust_of_flags {s : State} {z n h c : Bool} (hf : s.f = flagByte z n h c) :
    decimalAdjust s = .next { s with
      a := daaResult s.a n h c, f := flagByte (daaResult s.a n h c == 0) n false (daaHigh s.a n c) } := by
  obtain ⟨-, hn, hh, hc⟩ := flagByte_getLsbD z n h c
  simp only [decimalAdjust, flagN, flagH, flagC, hf, hn, hh, hc]

end Sys2Proof.Machine

open Sys2Proof Sys2Proof.Machine

/-- Settles O38: both add the operand and a carry-in, which ADD takes to be 0. -/
theorem addAndAdc : Obligations.AddAndAdc := fun _ t n s _ h =>
  alu_of_accumulate t n fun v k => accumulate_of_add (s := { s with draws := k }) h v

/-- Settles O39: all three subtract the operand and a borrow-in, and CP leaves A. -/
theorem subSbcAndCp : Obligations.SubSbcAndCp := fun _ t n s _ h =>
  alu_of_accumulate t n fun v k => accumulate_of_sub (s := { s with draws := k }) h v

/-- Settles O40: each is one bitwise operation on A. -/
theorem andXorAndOr : Obligations.AndXorAndOr := by
  rintro t n s res o (rfl | rfl | rfl) <;> exact alu_of_accumulate t n fun _ _ => rfl

/-- Settles O41: Z and H are read off the old byte, and C is still what it was before the Get. -/
theorem incrementAndDecrement : Obligations.IncrementAndDecrement := by
  intro t s
  refine ⟨⟨encode_inc t, ?_⟩, ⟨encode_dec t, ?_⟩⟩
  · rw [exec_inc]
    refine (updatesTarget_of_write t s (· + 1) fun old s2 =>
      setFlags (old + 1 == 0) false (incHalf old) (flagC s2) s2).congr fun old s2 hf => ?_
    rw [setFlags, flagC, hf, add_one_beq_zero, incHalf_eq]
  · rw [exec_dec]
    refine (updatesTarget_of_write t s (· - 1) fun old s2 =>
      setFlags (old - 1 == 0) true (decHalf old) (flagC s2) s2).congr fun old s2 hf => ?_
    rw [setFlags, flagC, hf, sub_one_beq_zero, decHalf_eq]

/-- Settles O42: the two conditions are `daaLow` and `daaHigh` on the old A. -/
theorem decimalAdjustAndComplement : Obligations.DecimalAdjustAndComplement := by
  rintro s low high n corr a rfl hlow hhigh rfl rfl
  obtain rfl := Bool.eq_iff_iff.mpr (hlow.trans daaLow_eq_true_iff.symm)
  obtain rfl := Bool.eq_iff_iff.mpr (hhigh.trans daaHigh_eq_true_iff.symm)
  rw [← daaCorrection_eq]
  exact ⟨⟨rfl, rfl⟩, ⟨rfl, rfl⟩⟩

/-- Settles O43: DAA reads the flags that ADD or SUB left, and corrects each digit by its carry or borrow. -/
theorem decimalAdjustGivesDecimalResult : Obligations.DecimalAdjustGivesDecimalResult := by
  intro s x y hx hy bcd ha
  change s.a = bcdByte x at ha
  refine ⟨⟨_, _, exec_aluImm_next .ADD (bcdByte y) s, decimalAdjust_of_flags rfl, ?_, ?_⟩,
    ⟨_, _, exec_aluImm_next .SUB (bcdByte y) s, decimalAdjust_of_flags rfl, ?_, ?_⟩⟩
  · simp only [accumulate, ha]
    exact daaResult_add_bcd hx hy
  · simp only [accumulate, ha, flagByte_getLsbD]
    exact daaHigh_add_bcd hx hy
  · simp only [accumulate, ha]
    exact daaResult_sub_bcd hx hy
  · simp only [accumulate, ha, flagByte_getLsbD, daaHigh_of_sub]
    exact carry_sub_bcd hx hy
end

-- ====
section
/-! PROOFS. 16-bit arithmetic (43_alu16.md R230 to R234): the sums and carries of two words, and of SP and a signed byte,
as numbers. -/

namespace Sys2Proof.Machine

/-! ### The encodings, in field terms -/

theorem encode_addHL (p : Rp) : encode (.addHL p) = [0x09 ||| p.code <<< 4] := by cases p <;> rfl

theorem encode_incPair (p : Rp) : encode (.incPair p) = [0x03 ||| p.code <<< 4] := by cases p <;> rfl

theorem encode_decPair (p : Rp) : encode (.decPair p) = [0x0B ||| p.code <<< 4] := by cases p <;> rfl

/-! ### The sums, as numbers -/

/-- The bytes of a sum are those of the exact sum: what is lost above bit 15 reaches neither. -/
theorem highByte_add (a b : Word) : highByte (a + b) = BitVec.ofNat 8 ((a.toNat + b.toNat) / 256) := by
  apply BitVec.eq_of_toNat_eq
  rw [highByte_toNat, BitVec.toNat_add, BitVec.toNat_ofNat]
  omega

theorem lowByte_add (a b : Word) : lowByte (a + b) = BitVec.ofNat 8 (a.toNat + b.toNat) := by
  apply BitVec.eq_of_toNat_eq
  rw [lowByte_toNat, BitVec.toNat_add, BitVec.toNat_ofNat]
  omega

/-- A byte that is sign-extended counts 256 less from 0x80 on (00_scope.md R9). -/
theorem add_signExtend16 (v : Word) (e : Byte) : v + signExtend16 e =
    BitVec.ofInt 16 (v.toNat + (if e.toNat < 128 then (e.toNat : Int) else e.toNat - 256)) := by
  have he : e.toInt = if e.toNat < 128 then (e.toNat : Int) else e.toNat - 256 := by
    rw [BitVec.toInt_eq_toNat_cond]
    split_ifs <;> omega
  rw [BitVec.ofInt_add, BitVec.ofInt_natCast, BitVec.ofNat_toNat, BitVec.setWidth_eq, ← he]
  rfl

/-! ### The flags, as numbers -/

/-- Masking with `k` ones keeps the remainder by `2 ^ k`. -/
theorem toNat_and_low_bits (v : Word) {mask : Word} {k : Nat} (h : mask.toNat = 2 ^ k - 1) :
    (v &&& mask).toNat = v.toNat % 2 ^ k := by
  rw [BitVec.toNat_and, h, Nat.and_two_pow_sub_one_eq_mod]

theorem half16_eq (a b : Word) : half16 a b = decide (a.toNat % 4096 + b.toNat % 4096 > 4095) := by
  rw [half16, toNat_and_low_bits a (k := 12) rfl, toNat_and_low_bits b (k := 12) rfl]
  rfl

theorem spHalf_eq (sp : Word) (e : Byte) : spHalf sp e = decide (sp.toNat % 16 + e.toNat % 16 > 15) := by
  rw [spHalf, toNat_and_low_bits sp (k := 4) rfl, toNat_and_low_nibble]
  rfl

theorem spCarry_eq (sp : Word) (e : Byte) : spCarry sp e = decide (sp.toNat % 256 + e.toNat > 255) := by
  rw [spCarry, toNat_and_low_bits sp (k := 8) rfl]
  rfl

end Sys2Proof.Machine

open Sys2Proof Sys2Proof.Machine

/-- Settles O44: `ADD HL,rr` reads both pairs before it writes, and DEC adds 0xFFFF, which is -1. -/
theorem sixteenBitArithmetic : Obligations.SixteenBitArithmetic := by
  rintro p s x y rfl rfl
  refine ⟨⟨encode_addHL p, ?_⟩, ⟨encode_incPair p, ?_⟩, ⟨encode_decPair p, ?_⟩⟩
  · rw [exec_addHL, addPairHL, setPair, highByte_add, lowByte_add, half16_eq]
    rfl
  · rw [exec_incPair, stepPair, BitVec.add_def]
    rfl
  · rw [exec_decPair, stepPair, BitVec.add_def]
    rfl

/-- Settles O45: the sum takes the byte as signed, the flags as it stands. -/
theorem stackPointerOffsets : Obligations.StackPointerOffsets := by
  rintro e s sum f rfl rfl
  rw [← add_signExtend16, ← spHalf_eq, ← spCarry_eq]
  exact ⟨⟨rfl, rfl⟩, ⟨rfl, rfl⟩⟩
end

-- ====
section
/-! PROOFS. Control transfer (44_control.md R250 to R261): the targets as numbers, the jumps as exact next states, the calls
as a push and the returns as a pop, each of them under its condition. -/

namespace Sys2Proof.Machine

/-! ### The encodings, in field terms -/

theorem encode_jpCond (cc : Cond) (a16 : Word) :
    encode (.jpCond cc a16) = [0xC2 ||| cc.code <<< 3, lowByte a16, highByte a16] := by cases cc <;> rfl

theorem encode_jrCond (cc : Cond) (e : Byte) : encode (.jrCond cc e) = [0x20 ||| cc.code <<< 3, e] := by cases cc <;> rfl

theorem encode_callCond (cc : Cond) (a16 : Word) :
    encode (.callCond cc a16) = [0xC4 ||| cc.code <<< 3, lowByte a16, highByte a16] := by cases cc <;> rfl

theorem encode_retCond (cc : Cond) : encode (.retCond cc) = [0xC0 ||| cc.code <<< 3] := by cases cc <;> rfl

theorem encode_rst (y : Bit3) : encode (.rst y) = [0xC7 ||| y.code <<< 3] := by cases y <;> rfl

/-! ### The jumps -/

/-- A jump under a condition as one next state (R250, R252). -/
theorem jumpIf_eq (cc : Cond) (target : Word) (s : State) :
    jumpIf cc target s = .next (if condition cc s then { s with pc := target } else s) :=
  (apply_ite Host.Outcome.next _ _ _).symm

/-- A relative jump under a condition is the absolute one to its target (R254, R255). -/
theorem jumpRelIf_eq_jumpIf (cc : Cond) (e : Byte) (s : State) :
    jumpRelIf cc e s = jumpIf cc (s.pc + signExtend16 e) s := rfl

/-! ### The calls and the returns -/

/-- A call stores PC below the stack, and then PC is the target (R256). -/
theorem storesWord_call (target : Word) (s : State) :
    StoresWord (call target s) (s.sp - 2) s.pc { s with sp := s.sp - 2 } fun t => { t with pc := target } :=
  storesWord_of_push s.pc s fun t => { t with pc := target }

/-- A return loads PC from the stack (R258). -/
theorem loadsWord_ret (s : State) : LoadsWord (ret s) s.sp s fun v t => { t with sp := s.sp + 2, pc := v } :=
  loadsWord_of_pop s fun v t => { t with pc := v }

/-- RETI loads PC and then sets IME (R260). -/
theorem loadsWord_retEnable (s : State) :
    LoadsWord (retEnable s) s.sp s fun v t => { t with sp := s.sp + 2, pc := v, ime := true } :=
  loadsWord_of_pop s fun v t => { t with pc := v, ime := true }

section
variable {cc : Cond} {s : State}

theorem callIf_of_taken (h : condition cc s = true) (target : Word) : callIf cc target s = call target s := if_pos h

theorem callIf_of_not_taken (h : condition cc s = false) (target : Word) : callIf cc target s = .next s :=
  if_neg (ne_true_of_eq_false h)

theorem retIf_of_taken (h : condition cc s = true) : retIf cc s = ret s := if_pos h

theorem retIf_of_not_taken (h : condition cc s = false) : retIf cc s = .next s := if_neg (ne_true_of_eq_false h)

end

/-- The address of a restart is 8 times its number (R261). -/
theorem restart_target (y : Bit3) : (y.code <<< 3).setWidth 16 = BitVec.ofNat 16 (8 * y.code.toNat) := by cases y <;> rfl

end Sys2Proof.Machine

open Sys2Proof Sys2Proof.Machine

/-- Settles O46: the condition is read off F, and the relative target is a signed sum. -/
theorem jumps : Obligations.Jumps := by
  rintro cc a16 e s taken rel htaken rfl
  have hcond : taken = condition cc s := htaken.trans (by cases cc <;> rfl)
  rw [hcond, ← add_signExtend16]
  refine ⟨⟨rfl, rfl⟩, ⟨encode_jpCond cc a16, ?_⟩, ⟨rfl, rfl⟩, ⟨rfl, rfl⟩, ⟨encode_jrCond cc e, ?_⟩⟩
  · rw [exec_jpCond, jumpIf_eq]
  · rw [exec_jrCond, jumpRelIf_eq_jumpIf, jumpIf_eq]

/-- Settles O47: a restart is a call of its address, and a conditional call is a call or nothing. -/
theorem callsAndRestarts : Obligations.CallsAndRestarts := by
  intro cc a16 y s
  rw [exec_callCond]
  refine ⟨⟨rfl, storesWord_call a16 s⟩, ⟨encode_callCond cc a16, fun htaken => ?_, fun hnot => ?_⟩, ⟨encode_rst y, ?_⟩⟩
  · rw [callIf_of_taken htaken]
    exact storesWord_call a16 s
  · exact callIf_of_not_taken hnot a16
  · rw [exec_rst, ← restart_target]
    exact storesWord_call _ s

/-- Settles O48: a conditional return is a return or nothing. -/
theorem returns : Obligations.Returns := by
  intro cc s
  rw [exec_retCond]
  refine ⟨⟨rfl, loadsWord_ret s⟩, ⟨encode_retCond cc, fun htaken => ?_, retIf_of_not_taken⟩, ⟨rfl, loadsWord_retEnable s⟩⟩
  rw [retIf_of_taken htaken]
  exact loadsWord_ret s
end

-- ====
section
/-! PROOFS. Rotates, shifts, SWAP and bit operations (45_rotate_shift_bit.md R270 to R286): each result and each bit
shifted out as a number, and what the forms on a register or (HL) answer in those terms. -/

namespace Sys2Proof.Machine

/-! ### The encodings, in field terms -/

theorem encode_rot (k : RotOp) (t : Target) : encode (.rot k t) = ([0xCB, k.code <<< 3 ||| t.code] : List Byte) := by
  cases t with
  | reg r => cases k <;> cases r <;> rfl
  | mHL => cases k <;> rfl

theorem encode_bit (y : Bit3) (t : Target) :
    encode (.bit y t) = ([0xCB, 0x40 ||| y.code <<< 3 ||| t.code] : List Byte) := by
  cases t with
  | reg r => cases y <;> cases r <;> rfl
  | mHL => cases y <;> rfl

theorem encode_res (y : Bit3) (t : Target) :
    encode (.res y t) = ([0xCB, 0x80 ||| y.code <<< 3 ||| t.code] : List Byte) := by
  cases t with
  | reg r => cases y <;> cases r <;> rfl
  | mHL => cases y <;> rfl

theorem encode_set (y : Bit3) (t : Target) :
    encode (.set y t) = ([0xCB, 0xC0 ||| y.code <<< 3 ||| t.code] : List Byte) := by
  cases t with
  | reg r => cases y <;> cases r <;> rfl
  | mHL => cases y <;> rfl

/-! ### One bit of a byte -/

theorem getLsbD_eq_decide (v : Byte) (b : Nat) : v.getLsbD b = decide (v.toNat / 2 ^ b % 2 = 1) :=
  Nat.testBit_eq_decide_div_mod_eq

theorem not_getLsbD_eq_decide (v : Byte) (b : Nat) : (!v.getLsbD b) = decide (v.toNat / 2 ^ b % 2 = 0) := by
  rw [getLsbD_eq_decide, ← decide_not, decide_eq_decide]
  exact Nat.mod_two_not_eq_one

theorem getLsbD_zero_eq_decide (v : Byte) : v.getLsbD 0 = decide (v.toNat % 2 = 1) := by
  rw [getLsbD_eq_decide, pow_zero, Nat.div_one]

theorem getLsbD_seven_eq_decide (v : Byte) : v.getLsbD 7 = decide (v.toNat ≥ 128) := by
  rw [getLsbD_eq_decide, decide_eq_decide]
  omega

theorem carryByte_getLsbD_zero (v : Byte) : (carryByte (v.getLsbD 0)).toNat = v.toNat % 2 := by
  simp only [carryByte_toNat, getLsbD_zero_eq_decide, decide_eq_true_eq]
  split <;> omega

theorem carryByte_getLsbD_seven (v : Byte) : (carryByte (v.getLsbD 7)).toNat = v.toNat / 128 := by
  simp only [carryByte_toNat, getLsbD_seven_eq_decide, decide_eq_true_eq]
  split <;> omega

/-! ### The results of the laws, as numbers -/

theorem shiftLeft_eq_ofNat (v : Byte) (b : Nat) : v <<< b = BitVec.ofNat 8 (2 ^ b * v.toNat) := by
  apply BitVec.eq_of_toNat_eq
  rw [BitVec.toNat_shiftLeft, BitVec.toNat_ofNat, Nat.shiftLeft_eq, Nat.mul_comm]

theorem toNat_ushiftRight_eq (v : Byte) (b : Nat) : (v >>> b).toNat = v.toNat / 2 ^ b := by
  rw [BitVec.toNat_ushiftRight, Nat.shiftRight_eq_div_pow]

theorem ushiftRight_eq_ofNat (v : Byte) (b : Nat) : v >>> b = BitVec.ofNat 8 (v.toNat / 2 ^ b) := by
  rw [← toNat_ushiftRight_eq, BitVec.ofNat_toNat, BitVec.setWidth_eq]

/-- Where the bits shifted up leave the low ones clear, OR is addition. -/
theorem shiftLeft_or_eq_ofNat {w : Byte} {b : Nat} (h : w.toNat < 2 ^ b) (v : Byte) :
    v <<< b ||| w = BitVec.ofNat 8 (2 ^ b * v.toNat + w.toNat) := by
  rw [Nat.two_pow_add_eq_or_of_lt h, BitVec.ofNat_or, ← shiftLeft_eq_ofNat, BitVec.ofNat_toNat, BitVec.setWidth_eq]

/-- A left shift by one with a bit moved in below. -/
theorem shiftLeft_or_carryByte (v : Byte) (c : Bool) :
    v <<< 1 ||| carryByte c = BitVec.ofNat 8 (v.toNat * 2 + (carryByte c).toNat) := by
  rw [shiftLeft_or_eq_ofNat (by cases c <;> decide), pow_one, Nat.mul_comm]

/-- A right shift by one with a bit moved in above. -/
theorem ushiftRight_or_carryByte (v : Byte) (c : Bool) :
    v >>> 1 ||| carryByte c <<< 7 = BitVec.ofNat 8 (v.toNat / 2 + (carryByte c).toNat * 128) := by
  rw [BitVec.or_comm, shiftLeft_or_eq_ofNat (by rw [toNat_ushiftRight_eq]; omega), toNat_ushiftRight_eq, Nat.add_comm,
    Nat.mul_comm, pow_one]
  rfl

/-- Bit 7 as SRA masks it, the bit moved in above. -/
theorem and_0x80_eq_carryByte (v : Byte) : v &&& (0x80 : Byte) = carryByte (v.getLsbD 7) <<< 7 := by
  refine (BitVec.and_twoPow v 7).trans ?_
  cases v.getLsbD 7 <;> rfl

/-- A left shift by four with the high nibble moved in below. -/
theorem shiftLeft_or_ushiftRight (v : Byte) :
    v <<< 4 ||| v >>> 4 = BitVec.ofNat 8 (v.toNat % 16 * 16 + v.toNat / 16) := by
  apply BitVec.eq_of_toNat_eq
  rw [shiftLeft_or_eq_ofNat (by rw [toNat_ushiftRight_eq]; omega), toNat_ushiftRight_eq, BitVec.toNat_ofNat,
    BitVec.toNat_ofNat]
  omega

/-- What each law makes of the number `x`, `c` being the carry-in as a number; RLC, RL and SLA give it modulo 256
(R276 to R283). -/
def rotNumber (k : RotOp) (x c : Nat) : Nat :=
  match k with
  | .RLC => x * 2 + x / 128
  | .RRC => x / 2 + x % 2 * 128
  | .RL => x * 2 + c
  | .RR => x / 2 + c * 128
  | .SLA => x * 2
  | .SRA => x / 2 + x / 128 * 128
  | .SWAP => x % 16 * 16 + x / 16
  | .SRL => x / 2

theorem rotResult_eq_ofNat (k : RotOp) (v : Byte) (cin : Bool) :
    rotResult k v cin = BitVec.ofNat 8 (rotNumber k v.toNat (carryByte cin).toNat) := by
  cases k with
  | RLC => rw [rotResult, shiftLeft_or_carryByte, carryByte_getLsbD_seven, rotNumber]
  | RRC => rw [rotResult, ushiftRight_or_carryByte, carryByte_getLsbD_zero, rotNumber]
  | RL => exact shiftLeft_or_carryByte v cin
  | RR => exact ushiftRight_or_carryByte v cin
  | SLA => rw [rotResult, shiftLeft_eq_ofNat, pow_one, Nat.mul_comm, rotNumber]
  | SRA => rw [rotResult, and_0x80_eq_carryByte, ushiftRight_or_carryByte, carryByte_getLsbD_seven, rotNumber]
  | SWAP => exact shiftLeft_or_ushiftRight v
  | SRL => exact ushiftRight_eq_ofNat v 1

/-! ### The forms on A -/

theorem rotateA_eq (k : RotOp) (s : State) : rotateA k s = .next { s with
    a := BitVec.ofNat 8 (rotNumber k s.a.toNat (carryByte (flagC s)).toNat)
    f := flagByte false false false (rotCarry k s.a) } := by
  rw [rotateA, rotResult_eq_ofNat]

/-! ### The forms on a register or (HL) -/

/-- The carry-in of a rotate is the one from before the Get. -/
theorem rotate_eq (k : RotOp) (l : Loc8) (s : State) : rotate k l s =
    finish ((readLoc l s).andThen fun v s1 => (writeLoc l (rotResult k v (flagC s)) s1).andThen fun _ s2 =>
      .done () (setFlags (rotResult k v (flagC s) == 0) false false (rotCarry k v) s2)) := by
  rw [rotate]
  cases h : readLoc l s with
  | done v s1 =>
    have hc : flagC s1 = flagC s := by rw [readLoc_done h]; rfl
    rw [andThen_done, andThen_done, hc]
  | raised f s1 => rfl

/-- A rotate in terms of numbers that its result and its carry are shown to be. -/
theorem updatesTarget_rotate {k : RotOp} {s : State} {res : Byte → Nat} {out : Byte → Bool} (t : Target)
    (hres : ∀ v, (rotResult k v (flagC s)).toNat = res v) (hout : ∀ v, rotCarry k v = out v) :
    UpdatesTarget (rotate k (targetLoc t) s) t s (fun v => BitVec.ofNat 8 (res v)) fun v s2 =>
      { s2 with f := flagByte (decide (res v = 0)) false false (out v) } := by
  have hbyte : ∀ v, rotResult k v (flagC s) = BitVec.ofNat 8 (res v) := fun v => by
    rw [← hres, BitVec.ofNat_toNat, BitVec.setWidth_eq]
  have hzero : ∀ v, (BitVec.ofNat 8 (res v) == 0) = decide (res v = 0) := fun v => by
    rw [ofNat_beq_zero, Nat.mod_eq_of_lt (hres v ▸ BitVec.isLt _)]
  simp only [rotate_eq, hbyte, hout, hzero]
  exact updatesTarget_of_write t s _ _

theorem andThen_done_unit (r : Access Unit) : (r.andThen fun _ s => .done () s) = r := by cases r <;> rfl

/-- One Get and then one Put of `res` of it, nothing after them. -/
theorem updatesTarget_of_put (t : Target) (s : State) (res : Byte → Byte) :
    UpdatesTarget (finish ((readLoc (targetLoc t) s).andThen fun v s1 => writeLoc (targetLoc t) (res v) s1)) t s res
      fun _ s2 => s2 := by
  simpa only [andThen_done_unit] using updatesTarget_of_write t s res fun _ s2 => s2

end Sys2Proof.Machine

open Sys2Proof Sys2Proof.Machine

/-- Settles O49: each is one of the first four laws, on A. -/
theorem accumulatorRotates : Obligations.AccumulatorRotates := by
  rintro s x c rfl hc
  obtain rfl : c = (carryByte (flagC s)).toNat := hc.trans (carryByte_toNat _).symm
  rw [← getLsbD_seven_eq_decide, ← getLsbD_zero_eq_decide]
  exact ⟨⟨rfl, rotateA_eq .RLC s⟩, ⟨rfl, rotateA_eq .RL s⟩, ⟨rfl, rotateA_eq .RRC s⟩, ⟨rfl, rotateA_eq .RR s⟩⟩

/-- Settles O50: the laws that shift left lose the top bit, and the numbers of the others are below 256. -/
theorem extendedRotatesAndShifts : Obligations.ExtendedRotatesAndShifts := by
  intro k t s c hc res out
  obtain rfl : c = (carryByte (flagC s)).toNat := hc.trans (carryByte_toNat _).symm
  have hcin : (carryByte (flagC s)).toNat ≤ 1 := by cases flagC s <;> decide
  refine ⟨encode_rot k t, ?_⟩
  rw [exec_rot]
  refine updatesTarget_rotate t (fun v => ?_) fun v => ?_
  · rw [rotResult_eq_ofNat, BitVec.toNat_ofNat]
    have hv := v.isLt
    cases k with
    | RLC | RL | SLA => rfl
    | RRC | RR | SRA | SWAP | SRL => exact Nat.mod_eq_of_lt (by simp only [rotNumber]; omega)
  · cases k with
    | RLC | RL | SLA => exact getLsbD_seven_eq_decide v
    | RRC | RR | SRA | SRL => exact getLsbD_zero_eq_decide v
    | SWAP => rfl

/-- Settles O51: BIT's C is the one from before the Get, and RES and SET are a Get and a Put alone. -/
theorem bitOperations : Obligations.BitOperations := by
  rintro y t s b rfl
  refine ⟨⟨encode_bit y t, ?_⟩, ⟨encode_res y t, ?_⟩, ⟨encode_set y t, ?_⟩⟩
  · rw [exec_bit]
    refine (getsTarget_of_read t s fun v s1 =>
      setFlags (!v.getLsbD y.code.toNat) false true (flagC s1) s1).congr fun v _ => ?_
    rw [not_getLsbD_eq_decide]
    rfl
  · rw [exec_res]
    exact updatesTarget_of_put t s _
  · rw [exec_set]
    exact updatesTarget_of_put t s _
end

-- ====
section
/-! PROOFS. Processor control (46_processor_control.md R300 to R307): the cost of a halted step, and what HALT and STOP
do under each halt mode. -/

namespace Sys2Proof.Machine

theorem stepCost_of_halted {s : State} (hrun : s.status = .running) (hhalt : s.halted = true) :
    stepCost s = some 4 := by
  simp only [stepCost, hrun, hhalt, if_true]

theorem haltOrNot_of_stall {s : State} (h : s.params.haltMode = .stall) :
    haltOrNot s = .next { s with halted := true } := by
  simp only [haltOrNot, h]

theorem haltOrNot_of_nop {s : State} (h : s.params.haltMode = .nop) : haltOrNot s = .next s := by
  simp only [haltOrNot, h]

/-- HALT is the shared operation of R301 and R302. -/
theorem exec_halt_eq_haltOrNot (s : State) : exec .halt s = haltOrNot s := rfl

/-- STOP is that operation too, whatever byte it ignores (decision D20). -/
theorem exec_stop_eq_haltOrNot (b : Byte) (s : State) : exec (.stop b) s = haltOrNot s := rfl

end Sys2Proof.Machine

open Sys2Proof Sys2Proof.Machine

/-- Settles O9: neither the step nor its cost fetches anything while halted. -/
theorem haltedStepChangesNothing : Obligations.HaltedStepChangesNothing :=
  fun _ hrun hhalt => ⟨step_of_halted hrun hhalt, stepCost_of_halted hrun hhalt⟩

/-- Settles O52: each is one update of the state, under every parameter, so both sides compute to the same. -/
theorem processorControl : Obligations.ProcessorControl :=
  fun _ => ⟨⟨rfl, rfl⟩, ⟨rfl, rfl⟩, ⟨rfl, rfl⟩, ⟨rfl, rfl⟩⟩

/-- Settles O53: HALT and STOP are one operation, which the halt mode alone decides. -/
theorem haltStopEnableAndIllegal : Obligations.HaltStopEnableAndIllegal := by
  intro s b op
  rw [exec_halt_eq_haltOrNot, exec_stop_eq_haltOrNot]
  refine ⟨⟨rfl, rfl⟩, ⟨rfl, rfl⟩, fun hstall => ?_, fun hnop => ?_, exec_of_illegal op s⟩
  · exact ⟨haltOrNot_of_stall hstall, haltOrNot_of_stall hstall⟩
  · exact ⟨haltOrNot_of_nop hnop, haltOrNot_of_nop hnop⟩
end

-- ====
section
/-! PROOFS. Taking a fault (60_exceptions.md R320, R328) and the cause codes (R321 to R324). -/

namespace Sys2Proof.Machine

theorem enterFault_eq (f : FaultRecord) (s : State) : enterFault f s = { s with status := .faulted f } := rfl

@[simp] theorem causeCode_decodeFault (addr : Word) (byte : Byte) : causeCode (.decodeFault addr byte) = 1 := rfl
@[simp] theorem causeCode_mapperConfigFault (addr : Word) (value : Byte) :
    causeCode (.mapperConfigFault addr value) = 2 := rfl
@[simp] theorem causeCode_romRangeFault (addr : Word) : causeCode (.romRangeFault addr) = 3 := rfl
@[simp] theorem causeCode_cartridgeTypeFault (code : Byte) : causeCode (.cartridgeTypeFault code) = 4 := rfl

end Sys2Proof.Machine

open Sys2Proof Sys2Proof.Machine

/-- Settles O7: taking a fault is one update of the status, and each of the four kinds of record has its own code. -/
theorem takingAFaultWritesStatusAlone : Obligations.TakingAFaultWritesStatusAlone := by
  intro f s
  refine ⟨enterFault_eq f s, ?_⟩
  cases f with
  | decodeFault addr byte => exact causeCode_decodeFault addr byte
  | mapperConfigFault addr value => exact causeCode_mapperConfigFault addr value
  | romRangeFault addr => exact causeCode_romRangeFault addr
  | cartridgeTypeFault code => exact causeCode_cartridgeTypeFault code
end

-- ====
section
/-! PROOFS. Construction and the cycle cost (70_reset_and_hazards.md R350, R370, R371): what a step costs is what its fetch
answered, unless it faulted, and that is a constant of the opcode. -/

namespace Sys2Proof.Machine

/-! ### Construction -/

theorem construct_of_mem {p : Params} (h : p.cartTypeCode ∈ p.mapperForType) : construct p = .ok (State.initial p) :=
  if_pos h

theorem construct_of_not_mem {p : Params} (h : p.cartTypeCode ∉ p.mapperForType) :
    construct p = .error (.cartridgeTypeFault p.cartTypeCode) := if_neg h

/-- Construction answers a core exactly when a mapper is known for the code (60_exceptions.md R324). -/
theorem exists_construct_eq_ok_iff {p : Params} : (∃ s, construct p = .ok s) ↔ p.cartTypeCode ∈ p.mapperForType := by
  constructor
  · rintro ⟨s, hs⟩
    by_contra h
    rw [construct_of_not_mem h] at hs
    cases hs
  · exact fun h => ⟨_, construct_of_mem h⟩

/-! ### The cost a step returns is the fetched one, unless the step faults -/

theorem costUnlessFaulted_of_running {t : State} (ht : t.status = .running) (cost : Nat) :
    costUnlessFaulted cost (.next t) = some cost := if_pos ht

theorem costUnlessFaulted_of_faulted {t : State} (ht : t.status ≠ .running) (cost : Nat) :
    costUnlessFaulted cost (.next t) = none := if_neg ht

section
variable {s t u : State} {d : Fetched} (hs : Running s)
include hs

theorem stepCost_of_fetch_raised {f : FaultRecord} (h : fetch s = .raised f u) : stepCost s = none := by
  simp [stepCost, hs.1, hs.2, h]

theorem stepCost_of_fetch_done (h : fetch s = .done d u) : stepCost s = costUnlessFaulted d.cost (step s) := by
  rw [step_of_running hs.1 hs.2]
  simp [stepCost, afterFetch, hs.1, hs.2, h]

theorem stepCost_of_next_faulted (h : step s = .next t) (ht : t.status ≠ .running) : stepCost s = none := by
  cases hfetch : fetch s with
  | raised f u => exact stepCost_of_fetch_raised hs hfetch
  | done d u => rw [stepCost_of_fetch_done hs hfetch, h, costUnlessFaulted_of_faulted ht]

/-- A step that ends running fetched an instruction, not an ILLEGAL byte, and returns its cost. -/
theorem fetch_of_next_running (h : step s = .next t) (ht : t.status = .running) :
    ∃ d u, fetch s = .done d u ∧ (∀ op, d.instr ≠ .illegal op) ∧ stepCost s = some d.cost := by
  have hafter := h
  rw [step_of_running hs.1 hs.2] at hafter
  cases hfetch : fetch s with
  | raised f u =>
    rw [hfetch] at hafter
    cases hafter
    cases ht
  | done d u =>
    refine ⟨d, u, rfl, fun op hill => ?_, ?_⟩
    · rw [hfetch, afterFetch, hill, exec_of_illegal] at hafter
      cases hafter
      cases ht
    · rw [stepCost_of_fetch_done hs hfetch, h, costUnlessFaulted_of_running ht]

end

/-! ### The fetched cost is a constant of the opcode (70_reset_and_hazards.md R370) -/

section
variable {addr : Word} {s u : State} {d : Fetched} {op op2 : Byte}

theorem cost_of_decodeAt_primary (hop : readValue addr s = .ok op) (hne : op ≠ 0xCB)
    (h : decodeAt addr s = .done d u) (hlegal : d.instr ≠ .illegal op) : d.cost = cyclesPrimary op s := by
  have hnot : ¬ (op ∈ illegalOpcodes ∨ unimplemented op s = true) := by
    intro hrefused
    rw [decodeAt_refused hop hrefused] at h
    cases h
    exact hlegal rfl
  obtain ⟨hill, hun⟩ := not_or.mp hnot
  rw [Bool.not_eq_true] at hun
  cases he : primaryEntry op with
  | illegal => exact absurd (primaryEntry_illegal_iff.mp he) hill
  | cbTable => exact absurd (eq_cb_of_cbTable he) hne
  | op i =>
    rw [decodeAt_op hop hun he] at h
    cases h
    rfl
  | imm8 f =>
    rw [decodeAt_imm8 hop hun he] at h
    obtain ⟨b1, s2, -, h⟩ := andThen_eq_done.mp h
    cases h
    rfl
  | imm16 f =>
    rw [decodeAt_imm16 hop hun he] at h
    obtain ⟨b1, s2, -, h⟩ := andThen_eq_done.mp h
    obtain ⟨b2, s3, -, h⟩ := andThen_eq_done.mp h
    cases h
    rfl

theorem cost_of_decodeAt_prefixed (hop : readValue addr s = .ok 0xCB) (hop2 : readValue (addr + 1) s = .ok op2)
    (h : decodeAt addr s = .done d u) : d.cost = 1 + cyclesCbInner op2 s := by
  rw [decodeAt_cbTable hop (unimplemented_prefix s) rfl, readByte_second hop2] at h
  cases h
  rfl

end

section
variable {s t : State} {op : Byte} (hs : Running s) (hstep : step s = .next t) (ht : t.status = .running)
include hs hstep ht

theorem stepCost_primary (hop : readValue s.pc s = .ok op) (hne : op ≠ 0xCB) :
    stepCost s = some (cyclesPrimary op s) := by
  obtain ⟨d, u, hfetch, hlegal, hcost⟩ := fetch_of_next_running hs hstep ht
  rw [hcost, cost_of_decodeAt_primary hop hne hfetch (hlegal op)]

theorem stepCost_prefixed {op2 : Byte} (hop : readValue s.pc s = .ok 0xCB) (hop2 : readValue (s.pc + 1) s = .ok op2) :
    stepCost s = some (1 + cyclesCbInner op2 s) := by
  obtain ⟨d, u, hfetch, -, hcost⟩ := fetch_of_next_running hs hstep ht
  rw [hcost, cost_of_decodeAt_prefixed hop hop2 hfetch]

end

/-! ### The default costs (70_reset_and_hazards.md R371) -/

/-- Sixteen rows of sixteen. -/
theorem length_defaultCyclesPrimary : defaultCyclesPrimary.length = 256 := by
  simp only [defaultCyclesPrimary, List.length_append, List.length_cons, List.length_nil]

/-- 32 times the same eight. -/
theorem length_defaultCyclesCbInner : defaultCyclesCbInner.length = 256 := by
  rw [defaultCyclesCbInner, List.length_flatten, List.map_replicate, List.sum_replicate]
  rfl

/-- The default cost of the instruction with these bytes: 1 plus the inner table's behind the prefix, the primary table's
otherwise. -/
def defaultCostOfBytes (bytes : List Byte) : Nat :=
  match bytes with
  | [0xCB, op2] => 1 + Params.default.cyclesCbInner.getD op2.toNat 0
  | op :: _ => Params.default.cyclesPrimary.getD op.toNat 0
  | [] => 0

/-- The default cost of an instruction, by its encoding. -/
def defaultCost (i : Instr) : Nat := defaultCostOfBytes (encode i)

/-- What an operand in memory adds to the cost of a form on a register or (HL). -/
def slowness (t : Target) : Nat := if t = .mHL then 8 else 0

section
variable (d r : Reg8) (t : Target) (o : AluOp) (k : RotOp) (y : Bit3) (p : Rp) (q : Rp2) (cc : Cond) (n : Byte) (w : Word)

theorem defaultCost_ldRegReg : defaultCost (.ldRegReg d r) = 4 := by cases d <;> cases r <;> rfl

theorem defaultCost_ldRegMem : defaultCost (.ldRegMem d) = 8 := by cases d <;> rfl

theorem defaultCost_ldMemReg : defaultCost (.ldMemReg r) = 8 := by cases r <;> rfl

theorem defaultCost_ldRegImm : defaultCost (.ldRegImm d n) = 8 := by cases d <;> rfl

theorem defaultCost_ldPairImm : defaultCost (.ldPairImm p w) = 12 := by cases p <;> rfl

theorem defaultCost_push : defaultCost (.push q) = 16 := by cases q <;> rfl

theorem defaultCost_pop : defaultCost (.pop q) = 12 := by cases q <;> rfl

theorem defaultCost_alu_reg : defaultCost (.alu o (.reg r)) = 4 := by cases o <;> cases r <;> rfl

theorem defaultCost_alu_mHL : defaultCost (.alu o .mHL) = 8 := by cases o <;> rfl

theorem defaultCost_aluImm : defaultCost (.aluImm o n) = 8 := by cases o <;> rfl

theorem defaultCost_inc : defaultCost (.inc t) = 4 + slowness t := by
  cases t with
  | reg r => cases r <;> rfl
  | mHL => rfl

theorem defaultCost_dec : defaultCost (.dec t) = 4 + slowness t := by
  cases t with
  | reg r => cases r <;> rfl
  | mHL => rfl

theorem defaultCost_addHL : defaultCost (.addHL p) = 8 := by cases p <;> rfl

theorem defaultCost_incPair : defaultCost (.incPair p) = 8 := by cases p <;> rfl

theorem defaultCost_decPair : defaultCost (.decPair p) = 8 := by cases p <;> rfl

theorem defaultCost_jpCond : defaultCost (.jpCond cc w) = 12 := by cases cc <;> rfl

theorem defaultCost_jrCond : defaultCost (.jrCond cc n) = 8 := by cases cc <;> rfl

theorem defaultCost_callCond : defaultCost (.callCond cc w) = 12 := by cases cc <;> rfl

theorem defaultCost_retCond : defaultCost (.retCond cc) = 8 := by cases cc <;> rfl

theorem defaultCost_rst : defaultCost (.rst y) = 32 := by cases y <;> rfl

/-- The inner table repeats every 8 entries: only the field r of an extended opcode, its low three bits, counts. -/
theorem defaultCyclesCbInner_getD :
    ∀ op2 : Byte, defaultCyclesCbInner.getD op2.toNat 0 = if op2 &&& 7 = 6 then 16 else 8 := by decide

/-- An extended instruction whose opcode has `z` above the field r of its target. -/
theorem defaultCost_of_target {i : Instr} {z : Byte} {t : Target} (henc : encode i = [0xCB, z ||| t.code])
    (hz : z &&& 7 = 0#8) : defaultCost i = 9 + slowness t := by
  have hcost : defaultCost i = 1 + defaultCyclesCbInner.getD (z ||| t.code).toNat 0 := by
    rw [defaultCost, henc]
    rfl
  have hfield : (z ||| t.code) &&& 7 = t.code &&& 7 := by
    rw [BitVec.and_or_distrib_right, hz, BitVec.zero_or]
  rw [hcost, defaultCyclesCbInner_getD, hfield]
  cases t with
  | reg r => cases r <;> rfl
  | mHL => rfl

theorem defaultCost_rot : defaultCost (.rot k t) = 9 + slowness t :=
  defaultCost_of_target (encode_rot k t) (by cases k <;> rfl)

theorem defaultCost_bit : defaultCost (.bit y t) = 9 + slowness t :=
  defaultCost_of_target (encode_bit y t) (by cases y <;> rfl)

theorem defaultCost_res : defaultCost (.res y t) = 9 + slowness t :=
  defaultCost_of_target (encode_res y t) (by cases y <;> rfl)

theorem defaultCost_set : defaultCost (.set y t) = 9 + slowness t :=
  defaultCost_of_target (encode_set y t) (by cases y <;> rfl)

end

end Sys2Proof.Machine

open Sys2Proof Sys2Proof.Machine

/-- Settles O18: the codes of the default map are the three that its list holds. -/
theorem constructionPicksMapper : Obligations.ConstructionPicksMapper := by
  refine ⟨fun p => construct_of_mem, fun p => construct_of_not_mem, fun code => ?_⟩
  rw [exists_construct_eq_ok_iff]
  simp [Params.default]

/-- Settles O15: a step that ends running returns the cost its fetch answered, and one that faults returns none. -/
theorem stepReturnsTheCycleCost : Obligations.StepReturnsTheCycleCost := by
  intro s t op hs hstep hop
  refine ⟨stepCost_of_next_faulted hs hstep, ?_, ?_, ?_, ?_⟩
  · rintro ht rfl
    exact stepCost_primary hs hstep ht hop (by decide)
  · rintro ht rfl
    exact stepCost_primary hs hstep ht hop (by decide)
  · intro ht hnop hcall hcb
    rw [stepCost_primary hs hstep ht hop hcb, cyclesPrimary_of_ne hnop hcall]
  · rintro op2 ht rfl hop2
    exact stepCost_prefixed hs hstep ht hop hop2

/-- Settles O16: a form with fields costs one constant over them, by the lemma of its family; a form without fields stands
at one entry of the table. -/
theorem defaultCycleCosts : Obligations.DefaultCycleCosts := by
  refine ⟨length_defaultCyclesPrimary, length_defaultCyclesCbInner, fun d r t o k y p q cc n w =>
    ⟨?load8, ?load16, ?alu8, ?alu16, ?control, ?rotate, ?processor⟩⟩
  case load8 =>
    exact ⟨defaultCost_ldRegReg d r, defaultCost_ldRegMem d, defaultCost_ldMemReg r, defaultCost_ldRegImm d n,
      rfl, rfl, rfl, rfl, rfl, rfl, rfl, rfl, rfl, rfl, rfl, rfl, rfl, rfl, rfl⟩
  case load16 => exact ⟨defaultCost_ldPairImm p w, rfl, rfl, defaultCost_push q, defaultCost_pop q⟩
  case alu8 =>
    exact ⟨defaultCost_alu_reg r o, defaultCost_alu_mHL o, defaultCost_aluImm o n, defaultCost_inc t, defaultCost_dec t,
      rfl, rfl⟩
  case alu16 => exact ⟨defaultCost_addHL p, defaultCost_incPair p, defaultCost_decPair p, rfl, rfl⟩
  case control =>
    exact ⟨rfl, defaultCost_jpCond cc w, rfl, rfl, defaultCost_jrCond cc n, rfl, defaultCost_callCond cc w, rfl,
      defaultCost_retCond cc, rfl, defaultCost_rst y⟩
  case rotate =>
    exact ⟨rfl, rfl, rfl, rfl, defaultCost_rot t k, defaultCost_bit t y, defaultCost_res t y, defaultCost_set t y⟩
  case processor => exact ⟨rfl, rfl, rfl, rfl, rfl, rfl, rfl⟩
end
